-- ==== Sys2Proof/Word.lean ====
section
/-! DEFINITION. The word types of the block: widths and names only (00_scope.md R6, R7). -/

namespace Sys2Proof

/-- A command word, an `RSP` word, the `info` of a `DIAG` record: 32 bits (`CMD_BITS`, R6). -/
abbrev Word := BitVec 32

/-- A register on the `WR`/`RD` interface: 16 bits (R32); also a raster coordinate (`POS_BITS`, R6). -/
abbrev Half := BitVec 16

/-- A byte of an output stream, an intensity, a hardware colour index (`HWIDX_BITS`, R6). -/
abbrev Byte := BitVec 8

/-- A colour `0xRRGGBB`: `{r, g, b}` with `r` in bits 23:16, `g` in 15:8, `b` in 7:0 (R7, D5). -/
abbrev Rgb := BitVec 24

/-- The index a pixel command hands to the packer: 1, 2 or 4 bits wide (R15), held in 4. -/
abbrev Index := BitVec 4

end Sys2Proof
end

