-- ==== Sys2Proof/Syntax.lean ====
section
/-! DEFINITION. The registers and the twelve commands (10_state.md R32; 30_encoding.md R61, R62). -/

namespace Sys2Proof

/-- The registers of the register space, by the names of R32; any other number is undefined. -/
inductive Reg where
  | ctrl | width | height | catval
  | status | fcode | xpos | ypos | catptr | ovfcnt | unrcnt
  deriving DecidableEq, Repr

/-- The twelve commands of R62, one constructor for each row of the opcode table, with the operands of
its format (R61). -/
inductive Instr where
  /-- Format Z, opcode 0x00 (R80). -/
  | nop
  /-- Format Z, opcode 0x01 (R81). -/
  | srst
  /-- Format RV, opcode 0x02 (R82). -/
  | wr (reg : Reg) (val : Half)
  /-- Format R, opcode 0x03 (R83). -/
  | rd (reg : Reg)
  /-- Format Z, opcode 0x10 (R90). -/
  | catclr
  /-- Format C, opcode 0x11 (R91). -/
  | catk (rgb : Rgb)
  /-- Format Z, opcode 0x12 (R92). -/
  | catlock
  /-- Format Z, opcode 0x20 (R100, R101). -/
  | start
  /-- Format Z, opcode 0x21 (R104). -/
  | fend
  /-- Format G, opcode 0x30 (R111). -/
  | pxg (i : Byte)
  /-- Format C, opcode 0x31 (R112). -/
  | pxc (rgb : Rgb)
  /-- Format I, opcode 0x32 (R133). -/
  | pxi (idx : Index)
  deriving DecidableEq, Repr

end Sys2Proof
end

