-- ==== Sys2Proof/WellFormed.lean ====
section
/-! DEFINITION. Which commands are well formed: every operand value is legal but for `WR` of a
read-only register (30_encoding.md R68). Undefined register numbers have no `Reg`. -/

namespace Sys2Proof

/-- The RW registers of R32, the only ones `WR` may name (R68). -/
def Reg.writable : Reg → Bool
  | .ctrl | .width | .height | .catval => true
  | .status | .fcode | .xpos | .ypos | .catptr | .ovfcnt | .unrcnt => false

/-- The check of R68 on each command. -/
def Instr.wellFormed : Instr → Bool
  | .wr r _ => r.writable
  | .nop | .srst | .rd _ | .catclr | .catk _ | .catlock | .start | .fend | .pxg _ | .pxc _ | .pxi _ => true

/-- A command some legal word stands for. -/
abbrev Instr.WellFormed (i : Instr) : Prop := i.wellFormed = true

end Sys2Proof
end

