-- ==== Sys2Proof/Decode.lean ====
section
/-! DEFINITION. Decoding a command word and encoding a command (30_encoding.md R60 to R69).
A word is one 32-bit transfer, so there is no byte order to decide (20_memory.md R47; log 11). -/

namespace Sys2Proof

/-- Why a word is illegal. The machine treats all four alike (R155). -/
inductive DecodeError where
  /-- The opcode is not one of the twelve (R65). -/
  | reservedOpcode
  /-- A reserved payload bit is 1 (R66). -/
  | reservedBits
  /-- `WR` or `RD` names a register number that R32 does not define (R68). -/
  | undefinedRegister
  /-- `WR` names a read-only register (R68). -/
  | readOnlyRegister
  deriving DecidableEq, Repr

/-- What a word is: exactly one command with its fields, or illegal (R64). -/
inductive Decoded where
  | legal (i : Instr)
  | illegal (why : DecodeError)
  deriving DecidableEq, Repr

/-! ### Fields (R60, R61) -/

/-- `op = w[31:24]`. -/
def opField (w : Word) : BitVec 8 := w.extractLsb' 24 8

/-- `P = w[23:0]`, which is also the field `rgb` of format C. -/
def payload (w : Word) : Rgb := w.extractLsb' 0 24

/-- `reg = w[23:16]`. -/
def regField (w : Word) : BitVec 8 := w.extractLsb' 16 8

/-- `val = w[15:0]`. -/
def valField (w : Word) : Half := w.extractLsb' 0 16

/-- `i = w[7:0]`. -/
def greyField (w : Word) : Byte := w.extractLsb' 0 8

/-- `idx = w[3:0]`. -/
def indexField (w : Word) : Index := w.extractLsb' 0 4

/-! ### Register numbers (R32) -/

/-- The number of a register. -/
def Reg.number : Reg → BitVec 8
  | .ctrl => 0x00
  | .width => 0x01
  | .height => 0x02
  | .catval => 0x03
  | .status => 0x08
  | .fcode => 0x09
  | .xpos => 0x0A
  | .ypos => 0x0B
  | .catptr => 0x0C
  | .ovfcnt => 0x0D
  | .unrcnt => 0x0E

/-- The registers R32 defines. -/
def allRegs : List Reg :=
  [.ctrl, .width, .height, .catval, .status, .fcode, .xpos, .ypos, .catptr, .ovfcnt, .unrcnt]

/-- The register with a number, if R32 defines one. -/
def regOfNumber (n : BitVec 8) : Option Reg := allRegs.find? fun r => r.number == n

/-! ### Decoding (R62, R64 to R68) -/

/-- Format Z: the whole payload is reserved (R66). -/
def decodeZ (w : Word) (i : Instr) : Decoded :=
  if payload w = 0 then .legal i else .illegal .reservedBits

/-- `WR`: the register must be defined and writable (R68). -/
def decodeWr (w : Word) : Decoded :=
  match regOfNumber (regField w) with
  | none => .illegal .undefinedRegister
  | some r => if r.writable then .legal (.wr r (valField w)) else .illegal .readOnlyRegister

/-- `RD`: `w[15:0]` is reserved (R66); the register must be defined (R68). -/
def decodeRd (w : Word) : Decoded :=
  if valField w = 0 then
    match regOfNumber (regField w) with
    | none => .illegal .undefinedRegister
    | some r => .legal (.rd r)
  else .illegal .reservedBits

/-- `PXG`: `w[23:8]` is reserved (R66). -/
def decodePxg (w : Word) : Decoded :=
  if w.extractLsb' 8 16 = 0 then .legal (.pxg (greyField w)) else .illegal .reservedBits

/-- `PXI`: `w[23:4]` is reserved (R66). -/
def decodePxi (w : Word) : Decoded :=
  if w.extractLsb' 4 20 = 0 then .legal (.pxi (indexField w)) else .illegal .reservedBits

/-- The decoder: total, from the word alone (R64). -/
def decode (w : Word) : Decoded :=
  if opField w = 0x00 then decodeZ w .nop
  else if opField w = 0x01 then decodeZ w .srst
  else if opField w = 0x02 then decodeWr w
  else if opField w = 0x03 then decodeRd w
  else if opField w = 0x10 then decodeZ w .catclr
  else if opField w = 0x11 then .legal (.catk (payload w))
  else if opField w = 0x12 then decodeZ w .catlock
  else if opField w = 0x20 then decodeZ w .start
  else if opField w = 0x21 then decodeZ w .fend
  else if opField w = 0x30 then decodePxg w
  else if opField w = 0x31 then .legal (.pxc (payload w))
  else if opField w = 0x32 then decodePxi w
  else .illegal .reservedOpcode

/-! ### Encoding (R61, R62) -/

/-- The opcode of a command. -/
def opcodeOf : Instr → BitVec 8
  | .nop => 0x00
  | .srst => 0x01
  | .wr _ _ => 0x02
  | .rd _ => 0x03
  | .catclr => 0x10
  | .catk _ => 0x11
  | .catlock => 0x12
  | .start => 0x20
  | .fend => 0x21
  | .pxg _ => 0x30
  | .pxc _ => 0x31
  | .pxi _ => 0x32

/-- The payload of a command, by its format; reserved bits are 0. -/
def payloadOf : Instr → Rgb
  | .nop | .srst | .catclr | .catlock | .start | .fend => 0
  | .wr r v => r.number ++ v
  | .rd r => r.number ++ (0 : BitVec 16)
  | .catk rgb | .pxc rgb => rgb
  | .pxg i => (0 : BitVec 16) ++ i
  | .pxi idx => (0 : BitVec 20) ++ idx

/-- The word of a command: `{op, P}` (R60). -/
def encode (i : Instr) : Word := opcodeOf i ++ payloadOf i

/-! ### The opcode map as R62 prints it -/

/-- A row of R62. -/
structure OpcodeRow where
  mnemonic : String
  mask : Word
  pattern : Word
  deriving DecidableEq, Repr

/-- The twelve rows of R62: `w` is the command when `w & mask = match`. The decoder above does not use
them; that it agrees with them is stated among the obligations. -/
def opcodeRows : List OpcodeRow :=
  [⟨"NOP", 0xFFFFFFFF, 0x00000000⟩, ⟨"SRST", 0xFFFFFFFF, 0x01000000⟩,
   ⟨"WR", 0xFF000000, 0x02000000⟩, ⟨"RD", 0xFF00FFFF, 0x03000000⟩,
   ⟨"CATCLR", 0xFFFFFFFF, 0x10000000⟩, ⟨"CATK", 0xFF000000, 0x11000000⟩,
   ⟨"CATLOCK", 0xFFFFFFFF, 0x12000000⟩, ⟨"START", 0xFFFFFFFF, 0x20000000⟩,
   ⟨"FEND", 0xFFFFFFFF, 0x21000000⟩, ⟨"PXG", 0xFFFFFF00, 0x30000000⟩,
   ⟨"PXC", 0xFF000000, 0x31000000⟩, ⟨"PXI", 0xFFFFFFF0, 0x32000000⟩]

/-- A row selects a word. -/
def rowMatches (w : Word) (r : OpcodeRow) : Bool := w &&& r.mask == r.pattern

/-! ### The host's view -/

/-- The word of a table row given by its low `nbits` bits, the bits above them zero. -/
def wordOfBits (nbits w : Nat) : Word := BitVec.ofNat 32 (w % 2 ^ nbits)

/-- The command the decoder reads from a word given as a number. -/
def decodeTableWord (nbits w : Nat) : Option Instr :=
  match decode (wordOfBits nbits w) with
  | .legal i => some i
  | .illegal _ => none

end Sys2Proof
end

