-- ==== Sys2Proof/Config.lean ====
section
/-! DEFINITION. What is fixed for the life of an instance and is not state: the dither table, the
catalog matching policy, and the value the spec leaves undefined (00_scope.md R6; 10_state.md R10, R28). -/

namespace Sys2Proof

/-- A table of 16 buckets x 4 x 4 cells of 2-bit levels, indexed `[bucket][xm][ym]` (R28, R120). -/
abbrev DitherTable := Fin 16 → Fin 4 → Fin 4 → BitVec 2

/-- The threshold matrix of R124, indexed `T[ym][xm]`. -/
def thresholds : List (List Nat) :=
  [[0, 8, 2, 10], [12, 4, 14, 6], [3, 11, 1, 9], [15, 7, 13, 5]]

/-- `T[ym][xm]` (R124). -/
def threshold (xm ym : Fin 4) : Nat := (thresholds.getD ym.val []).getD xm.val 0

/-- `DITHER_LUT_REF`, the default contents the vectors of 95_test_vectors.md use (R124):
`min(3, (4*bucket + T[ym][xm]) div 16)`. The machine does not use it: see `Config.ditherLut`. -/
def ditherLutRef : DitherTable := fun bucket xm ym =>
  BitVec.ofNat 2 (min 3 ((4 * bucket.val + threshold xm ym) / 16))

/-- A legal dither table: the contents with the three constraints the spec puts on them. -/
structure DitherLut where
  /-- The levels. -/
  level : DitherTable := ditherLutRef
  /-- LUT-ZERO (R121). -/
  lutZero : ∀ xm ym, level 0 xm ym = 0 := by decide
  /-- LUT-FULL (R122). -/
  lutFull : ∀ xm ym, level 15 xm ym = 3 := by decide
  /-- LUT-MONO (R123): cell by cell, from each bucket to the next. -/
  lutMono : ∀ (b : Fin 15) xm ym, level b.castSucc xm ym ≤ level b.succ xm ym := by decide
  deriving Inhabited

/-- `DITHER_LUT`, the OPEN parameter of R6: a FREE value, any table that meets R121 to R123 (R120, D15;
log 5). Nothing in Lean can evaluate it beyond those constraints. -/
opaque Config.ditherLut : DitherLut

/-- The catalog matching policies (R6, R94, R95). -/
inductive CatMatch where
  | exact | nearest
  deriving DecidableEq, Repr

/-- `CAT_MATCH`: the value of this hardware is `EXACT` (R94, C1; log 6). -/
def Config.catMatch : CatMatch := .exact

/-- `bpp()` where R15 leaves it undefined (`MODE = 7`, or `RAW` with `RAWBPP = 3`): a FREE value of the
`CTRL` contents (log 7). `START` faults on such a `CTRL`, so no reachable state evaluates it. -/
opaque Config.bppUndefined : Half → Nat

end Sys2Proof
end

