-- ==== Sys2Proof/Machine/State.lean ====
section
/-! DEFINITION. The architectural state (10_state.md R10), the state after reset (R33), and the reasons
a step could stop for. -/

namespace Sys2Proof.Machine

/-- `STATE` (R11); the value 3 is never taken. -/
inductive RunState where
  | idle | run | fault
  deriving DecidableEq, Repr

/-- The values of `CTRL.MODE` (R15). -/
inductive Mode where
  | dir1 | dir2 | dir4 | dith | glob | line | raw | reserved
  deriving DecidableEq, Repr

/-- The fault causes of R151. -/
inductive Cause where
  | malformedInput | missingReference | inputSizeMismatch | illegalCommand | protocol | badConfig | catalogFull
  deriving DecidableEq, Repr

/-- The events of R151. -/
inductive Event where
  | paletteOverflow | unreachableColor
  deriving DecidableEq, Repr

/-- A slot `PS[k]` of the palette accumulator (R25). -/
structure Slot where
  key : Rgb
  hw : Byte
  deriving DecidableEq, Repr

/-- A catalog entry `CAT[e]` (R27). -/
structure CatEntry where
  valid : Bool
  key : Rgb
  val : Byte
  deriving DecidableEq, Repr

/-- A `DIAG` record, its fields from the top bit down (R164, C9). -/
structure DiagRec where
  code : Byte
  y : Half
  x : Half
  info : Word
  deriving DecidableEq, Repr

/-- What the host does next at the block's two inputs (R44, R180, R191; logs 1, 4). -/
inductive HostEvent where
  /-- The host pushes a word into `CMD`. -/
  | word (w : Word)
  /-- The reset input is asserted; a word then in transfer is lost (R180). -/
  | reset (inTransfer : Option Word)
  deriving DecidableEq, Repr

/-- The complete architectural state of one instance (R10), and the model's own field `host`. -/
structure State where
  /-- `STATE` (R11). -/
  runState : RunState
  /-- `XPOS` (R13). -/
  xpos : Half
  /-- `YPOS` (R13). -/
  ypos : Half
  /-- `CTRL` (R15). -/
  ctrl : Half
  /-- `WIDTH` (R16). -/
  width : Half
  /-- `HEIGHT` (R17). -/
  height : Half
  /-- `CATVAL` (R18). -/
  catval : Half
  /-- `DONE` (R24). -/
  done : Bool
  /-- `CATLOCK` (R24). -/
  catlock : Bool
  /-- `OVFL` (R24). -/
  ovfl : Bool
  /-- `OVF` (R24). -/
  ovf : Bool
  /-- `UNR` (R24). -/
  unr : Bool
  /-- `TRAIL` (R24). -/
  trail : Bool
  /-- `FCODE[7:0]` (R20). -/
  fcode : Byte
  /-- `OVFCNT` (R22). -/
  ovfcnt : Half
  /-- `UNRCNT` (R23). -/
  unrcnt : Half
  /-- `PS[0..3]` (R25). -/
  ps : Vector Slot 4
  /-- `PALCNT`, 0 to 4 (R25). -/
  palcnt : Fin 5
  /-- `CAT[0..255]` (R27). -/
  cat : Vector CatEntry 256
  /-- `CATPTR`, 0 to 256 (R27). -/
  catptr : Fin 257
  /-- `PACC` (R29). -/
  pacc : Byte
  /-- `PCNT`, 0 to 7 (R29). -/
  pcnt : Fin 8
  /-- `PIXOUT`, oldest first (R30, R45). -/
  pixout : List Byte
  /-- `PALOUT`, oldest first (R30, R45). -/
  palout : List Byte
  /-- `DIAG`, oldest first (R30, R45). -/
  diag : List DiagRec
  /-- `RSP`, oldest first (R30, R45). -/
  rsp : List Word
  /-- The MODEL's own field: what the host does next, in order (R46; log 1). -/
  host : List HostEvent
  deriving DecidableEq, Repr

/-- The state after hardware reset (R33, R180). The contents of unpopulated slots and invalid entries,
which the spec leaves without a value, are 0 (log 8). -/
def State.reset : State where
  runState := .idle
  xpos := 0
  ypos := 0
  ctrl := 0
  width := 0
  height := 0
  catval := 0
  done := false
  catlock := false
  ovfl := false
  ovf := false
  unr := false
  trail := false
  fcode := 0
  ovfcnt := 0
  unrcnt := 0
  ps := Vector.replicate 4 ⟨0, 0⟩
  palcnt := 0
  cat := Vector.replicate 256 ⟨false, 0, 0⟩
  catptr := 0
  pacc := 0
  pcnt := 0
  pixout := []
  palout := []
  diag := []
  rsp := []
  host := []

/-- Reasons a step stops the model: none. Every command word has a defined outcome (R191), and the
block's own faults are next states with `STATE = FAULT` (R160). -/
inductive Fault where
  deriving DecidableEq, Repr

/-- Reasons the model refuses an instruction. -/
inductive Refusal where
  /-- Raised by a refused arm of `exec` alone, for an instruction without a meaning yet; no arm is
  refused now. Safe: the model stops where the hardware goes on. -/
  | notModelled (mnemonic : String)
  deriving DecidableEq, Repr

/-- What a meaning answers. -/
abbrev Result := Host.Outcome State Fault Refusal

end Sys2Proof.Machine
end

