-- ==== Sys2Proof/Machine/Flags.lean ====
section
/-! DEFINITION. The six flags, the two counters and the `STATUS` view (10_state.md R11, R19, R22 to R24). -/

namespace Sys2Proof.Machine

/-- The number of a value of `STATE` (R11). -/
def runStateCode : RunState → BitVec 2
  | .idle => 0
  | .run => 1
  | .fault => 2

/-- The `STATUS` register, assembled when read (R19), from bit 15 down. -/
def statusView (s : State) : Half :=
  (0 : BitVec 5) ++ BitVec.ofNat 3 s.palcnt.val ++ BitVec.ofBool s.trail ++ BitVec.ofBool s.unr ++
    BitVec.ofBool s.ovf ++ BitVec.ofBool s.ovfl ++ BitVec.ofBool s.catlock ++ BitVec.ofBool s.done ++
    runStateCode s.runState

/-- `sat16(v + 1)` (R7, R22, R23). -/
def satIncr (v : Half) : Half := BitVec.ofNat 16 (min (v.toNat + 1) 0xFFFF)

/-- A pixel command in `IDLE`: `TRAIL <- 1` (R110). -/
def markTrail (s : State) : State := { s with trail := true }

/-- The flag and the counter of `UNREACHABLE_COLOR` (R115). -/
def markUnreachable (s : State) : State := { s with unr := true, unrcnt := satIncr s.unrcnt }

/-- The flags and the counter of `PALETTE_OVERFLOW` (R116). -/
def markOverflow (s : State) : State :=
  { s with ovfl := true, ovf := true, ovfcnt := satIncr s.ovfcnt }

/-- The flags and counters `START` clears (R101). -/
def clearFrameFlags (s : State) : State :=
  { s with done := false, ovfl := false, ovf := false, unr := false, trail := false, ovfcnt := 0, unrcnt := 0 }

end Sys2Proof.Machine
end

