-- ==== Sys2Proof/Machine/Operands.lean ====
section
/-! DEFINITION. What the operands and the configuration mean: the fields of `CTRL`, the register
access primitives, the pixel kinds, direct classification (10_state.md R15 to R23; 20_memory.md R41;
43_quantizer.md R110, R111). -/

namespace Sys2Proof.Machine

/-! ### The fields of `CTRL` (R15) -/

/-- The mode with a number (R15). -/
def modeOfBits (m : BitVec 3) : Mode :=
  if m = 0 then .dir1
  else if m = 1 then .dir2
  else if m = 2 then .dir4
  else if m = 3 then .dith
  else if m = 4 then .glob
  else if m = 5 then .line
  else if m = 6 then .raw
  else .reserved

/-- `CTRL.MODE = CTRL[2:0]`. -/
def modeOf (ctrl : Half) : Mode := modeOfBits (ctrl.extractLsb' 0 3)

/-- `CTRL.RAWBPP = CTRL[5:4]`. -/
def rawbppOf (ctrl : Half) : BitVec 2 := ctrl.extractLsb' 4 2

/-- `bpp()`: bits of an index (R15); a free value where the spec leaves it undefined (log 7). -/
def bpp (ctrl : Half) : Nat :=
  match modeOf ctrl with
  | .dir1 => 1
  | .dir2 | .dith | .glob | .line => 2
  | .dir4 => 4
  | .raw =>
    if rawbppOf ctrl = 0 then 1
    else if rawbppOf ctrl = 1 then 2
    else if rawbppOf ctrl = 2 then 4
    else Config.bppUndefined ctrl
  | .reserved => Config.bppUndefined ctrl

/-- `ppb() = 8 div bpp()`: pixels in an output byte (R15). -/
def ppb (ctrl : Half) : Nat := 8 / bpp ctrl

/-- The two `CTRL` contents a `START` refuses (R15, R100). -/
def reservedConfig (ctrl : Half) : Bool :=
  modeOf ctrl = .reserved || (modeOf ctrl = .raw && rawbppOf ctrl = 3)

/-- The modes with a palette accumulator, which need a frozen catalog (R100, R112). -/
def adaptive (ctrl : Half) : Bool := modeOf ctrl = .glob || modeOf ctrl = .line

/-! ### Register access (R41) -/

/-- The bits of `CTRL` that are not reserved (R15, R41). -/
def ctrlMask : Half := 0x0037

/-- The bits of `CATVAL` that are not reserved (R18, R41). -/
def catvalMask : Half := 0x00FF

/-- `RegRead(n)`: reserved bits read as 0; no side effect (R41, R32). -/
def regRead (s : State) : Reg → Half
  | .ctrl => s.ctrl &&& ctrlMask
  | .width => s.width
  | .height => s.height
  | .catval => s.catval &&& catvalMask
  | .status => statusView s
  | .fcode => s.fcode.setWidth 16
  | .xpos => s.xpos
  | .ypos => s.ypos
  | .catptr => BitVec.ofNat 16 s.catptr.val
  | .ovfcnt => s.ovfcnt
  | .unrcnt => s.unrcnt

/-- `RegWrite(n, v)` for the four RW registers, masked as the register's rule says (R41). A read-only
register is never written: `WR` of one is an illegal word (R68). -/
def regWrite (r : Reg) (v : Half) (s : State) : State :=
  match r with
  | .ctrl => { s with ctrl := v &&& ctrlMask }
  | .width => { s with width := v }
  | .height => { s with height := v }
  | .catval => { s with catval := v &&& catvalMask }
  | .status | .fcode | .xpos | .ypos | .catptr | .ovfcnt | .unrcnt => s

/-! ### Pixels -/

/-- `PXG` is the pixel command of these modes (R110, R15). -/
def acceptsGrey : Mode → Bool
  | .dir1 | .dir2 | .dir4 | .dith => true
  | .glob | .line | .raw | .reserved => false

/-- `PXC` is the pixel command of these modes (R110, R15). -/
def acceptsColor : Mode → Bool
  | .glob | .line => true
  | .dir1 | .dir2 | .dir4 | .dith | .raw | .reserved => false

/-- `PXI` is the pixel command of this mode (R110, R15). -/
def acceptsIndex : Mode → Bool
  | .raw => true
  | .dir1 | .dir2 | .dir4 | .dith | .glob | .line | .reserved => false

/-- Direct classification: `i div step` (R111). -/
def levelOf (step : Nat) (i : Byte) : Index := BitVec.ofNat 4 (i.toNat / step)

/-- `dither(i, x, y)` over a table (R125): `DITHER_LUT[i div 16][x mod 4][y mod 4]`. -/
def ditherWith (lut : DitherTable) (i : Byte) (x y : Half) : BitVec 2 :=
  lut (i.extractLsb' 4 4).toFin (x.extractLsb' 0 2).toFin (y.extractLsb' 0 2).toFin

/-- `dither(i, x, y)` over this instance's table (R43, R125). -/
def dither (i : Byte) (x y : Half) : BitVec 2 := ditherWith Config.ditherLut.level i x y

/-! ### Catalog lookup (R94, R95) -/

/-- The loaded entries `CAT[0 .. CATPTR-1]`, lowest first. -/
def loaded (s : State) : List CatEntry := s.cat.toList.take s.catptr.val

/-- `CAT_MATCH = EXACT` (R94): the lowest entry with the key, its value. -/
def lookupExact (entries : List CatEntry) (rgb : Rgb) : Option Byte :=
  (entries.find? fun e => e.key == rgb).map CatEntry.val

/-- The square of the difference of two components. -/
def squareDiff (a b : Byte) : Nat := (a.toNat - b.toNat) ^ 2 + (b.toNat - a.toNat) ^ 2

/-- `d(e)`, the squared distance over the three components (R95). -/
def distance (rgb key : Rgb) : Nat :=
  squareDiff (rgb.extractLsb' 16 8) (key.extractLsb' 16 8) +
    squareDiff (rgb.extractLsb' 8 8) (key.extractLsb' 8 8) +
    squareDiff (rgb.extractLsb' 0 8) (key.extractLsb' 0 8)

/-- The entry at the smallest distance, the lowest-numbered one on a tie (R95). -/
def nearestEntry (rgb : Rgb) : List CatEntry → Option CatEntry
  | [] => none
  | e :: rest =>
    match nearestEntry rgb rest with
    | none => some e
    | some f => if distance rgb e.key ≤ distance rgb f.key then some e else some f

/-- `CAT_MATCH = NEAREST` (R95); a miss only on an empty catalog, which `CATLOCK` rules out (log 6). -/
def lookupNearest (entries : List CatEntry) (rgb : Rgb) : Option Byte :=
  (nearestEntry rgb entries).map CatEntry.val

/-- `cat_lookup(rgb)` under a policy: `some val` on a hit, `none` on a miss (R94, R95). -/
def lookupWith (m : CatMatch) (entries : List CatEntry) (rgb : Rgb) : Option Byte :=
  match m with
  | .exact => lookupExact entries rgb
  | .nearest => lookupNearest entries rgb

/-- `cat_lookup(rgb)` of this hardware; it reads `CAT` and `CATPTR` and nothing else (R94). -/
def catLookup (s : State) (rgb : Rgb) : Option Byte := lookupWith Config.catMatch (loaded s) rgb

end Sys2Proof.Machine
end

