-- ==== Sys2Proof/Machine/Ops.lean ====
section
/-! DEFINITION. The named operations every command is made of: taking a fault (60_exceptions.md R160),
leaving one by reset (R161), the events, the packer, the raster advance, the palette emitter, the
accumulator and the frame common to the pixel commands. -/

namespace Sys2Proof.Machine

/-! ### Faults, events, reset -/

/-- The code of a fault cause (R151). -/
def causeCode : Cause → Byte
  | .malformedInput => 0x01
  | .missingReference => 0x02
  | .inputSizeMismatch => 0x03
  | .illegalCommand => 0x04
  | .protocol => 0x05
  | .badConfig => 0x06
  | .catalogFull => 0x07

/-- The code of an event (R151). -/
def eventCode : Event → Byte
  | .paletteOverflow => 0x10
  | .unreachableColor => 0x11

/-- A `DIAG` record as its 72-bit element `{code, y, x, info}` (R164). -/
def diagBits (r : DiagRec) : BitVec 72 := r.code ++ r.y ++ r.x ++ r.info

/-- `DIAG.append` of a record at the current position (R160, R163, R164). -/
def appendDiag (code : Byte) (info : Word) (s : State) : State :=
  { s with diag := s.diag ++ [⟨code, s.ypos, s.xpos, info⟩] }

/-- `raise <Cause>(w)`, the only way into `FAULT` (R160). -/
def raise (c : Cause) (w : Word) (s : State) : State :=
  { appendDiag (causeCode c) w s with fcode := causeCode c, runState := .fault }

/-- The `DIAG` record of an event: `info = zext_32(rgb)` (R163). -/
def appendEvent (e : Event) (rgb : Rgb) (s : State) : State :=
  appendDiag (eventCode e) (rgb.setWidth 32) s

/-- `reset()`: every piece of state at its reset value but the four output streams (R33, R81, R181). The
host's pending input is not the block's and stays. -/
def resetKeepingStreams (s : State) : State :=
  { State.reset with pixout := s.pixout, palout := s.palout, diag := s.diag, rsp := s.rsp, host := s.host }

/-- Hardware reset: the same, and the output streams are emptied (R180). -/
def hardReset (s : State) : State := { State.reset with host := s.host }

/-- An illegal word: `ILLEGAL_COMMAND` in `IDLE` and `RUN`, dropped in `FAULT` (R85, R155, R162). -/
def illegalWord (w : Word) (s : State) : State :=
  match s.runState with
  | .fault => s
  | .idle | .run => raise .illegalCommand w s

/-- A command accepted in `IDLE` only: `PROTOCOL` in `RUN` (R156), dropped in `FAULT` (R162). -/
def idleOnly (w : Word) (act : State → State) (s : State) : State :=
  match s.runState with
  | .fault => s
  | .run => raise .protocol w s
  | .idle => act s

/-! ### Catalog (R42) -/

/-- The only catalog write: `CAT[CATPTR] <- (valid 1, key, val)`, `CATPTR <- CATPTR + 1` (R42, R91). At
`CATPTR = 256` there is no entry to write; `CATK` has faulted before. -/
def writeEntry (key : Rgb) (val : Byte) (s : State) : State :=
  if h : s.catptr.val < 256 then
    { s with cat := s.cat.set s.catptr.val ⟨true, key, val⟩ h, catptr := Fin.ofNat 257 (s.catptr.val + 1) }
  else s

/-- Every entry invalid, `CATPTR <- 0` (R42, R90). -/
def clearCatalog (s : State) : State :=
  { s with cat := s.cat.map fun e => { e with valid := false }, catptr := 0 }

/-! ### Bit packer (R130) -/

/-- `pack(idx)` (R130). -/
def pack (idx : Index) (s : State) : State :=
  if s.pcnt.val + 1 = ppb s.ctrl then
    { s with pixout := s.pixout ++ [(s.pacc <<< bpp s.ctrl) ||| idx.setWidth 8], pacc := 0, pcnt := 0 }
  else
    { s with pacc := (s.pacc <<< bpp s.ctrl) ||| idx.setWidth 8, pcnt := Fin.ofNat 8 (s.pcnt.val + 1) }

/-! ### Palette emitter (R140) -/

/-- Palette byte `k`: the slot's hardware index, or 0 for an unpopulated slot (R140). -/
def paletteByte (s : State) (k : Fin 4) : Byte := if k.val < s.palcnt.val then (s.ps[k]).hw else 0

/-- `emit_palette()`: exactly four bytes, slot 0 first (R140). -/
def emitPalette (s : State) : State :=
  { s with palout := s.palout ++ [paletteByte s 0, paletteByte s 1, paletteByte s 2, paletteByte s 3] }

/-! ### Raster advance (R105 to R107) -/

/-- `line_end()` (R106). -/
def lineEnd (s : State) : State :=
  if modeOf s.ctrl = .line then { emitPalette s with palcnt := 0, ovfl := false } else s

/-- `frame_end()` (R107). -/
def frameEnd (s : State) : State :=
  { (if modeOf s.ctrl = .glob then emitPalette s else s) with runState := .idle, done := true }

/-- The step to the next scanline: `XPOS <- 0`, `YPOS <- YPOS + 1`, and `frame_end()` after the last (R105). -/
def nextLine (s : State) : State :=
  if s.ypos + 1 = s.height then frameEnd { s with xpos := 0, ypos := s.ypos + 1 }
  else { s with xpos := 0, ypos := s.ypos + 1 }

/-- `advance()`, the last action of every accepted pixel command (R105). -/
def advance (s : State) : State :=
  if s.xpos + 1 = s.width then nextLine (lineEnd { s with xpos := s.xpos + 1 })
  else { s with xpos := s.xpos + 1 }

/-! ### Palette accumulator (R113 to R116) -/

/-- The populated slot that holds a colour: `k < PALCNT` with `PS[k].key = rgb` (R113). The keys are
pairwise distinct (R26), so the first is the only one (log 12). -/
def slotOf (rgb : Rgb) (s : State) : Option (Fin 4) :=
  [(0 : Fin 4), 1, 2, 3].find? fun k => k.val < s.palcnt.val && (s.ps[k]).key == rgb

/-- `UNREACHABLE_COLOR(rgb)` (R115). -/
def reportUnreachable (rgb : Rgb) (s : State) : State :=
  appendEvent .unreachableColor rgb (markUnreachable s)

/-- `report-once PALETTE_OVERFLOW(rgb)` (R116). -/
def reportOverflow (rgb : Rgb) (s : State) : State :=
  if s.ovfl then s else appendEvent .paletteOverflow rgb (markOverflow s)

/-- `PS[PALCNT] <- (key, hw)`, `PALCNT <- PALCNT + 1` (R113), for `PALCNT < 4`. -/
def populate (key : Rgb) (hw : Byte) (s : State) : State :=
  if h : s.palcnt.val < 4 then
    { s with ps := s.ps.set s.palcnt.val ⟨key, hw⟩ h, palcnt := Fin.ofNat 5 (s.palcnt.val + 1) }
  else s

/-- A new slot for a colour: its hardware index from the catalog, or 0 and `UNREACHABLE_COLOR` (R113). -/
def allocate (rgb : Rgb) (s : State) : State :=
  match catLookup s rgb with
  | some val => populate rgb val s
  | none => reportUnreachable rgb (populate rgb 0 s)

/-- `accumulate(rgb)`: the local index, and the state with its effects (R113). -/
def accumulate (rgb : Rgb) (s : State) : Index × State :=
  match slotOf rgb s with
  | some k => (BitVec.ofNat 4 k.val, s)
  | none =>
    if s.palcnt.val < 4 then (BitVec.ofNat 4 s.palcnt.val, allocate rgb s)
    else (0, reportOverflow rgb s)

/-! ### The frame common to the pixel commands (R110) -/

/-- `pack(idx)`, then `advance()`: what an accepted pixel does with its index (R110). -/
def packAdvance (idx : Index) (s : State) : State := advance (pack idx s)

/-- R110: dropped with `TRAIL` in `IDLE`, `PROTOCOL` in `RUN` unless accepted, else the command's own
computation `act`; dropped in `FAULT` (R162). -/
def pixelFrame (w : Word) (accepted : Bool) (act : State → State) (s : State) : State :=
  match s.runState with
  | .fault => s
  | .idle => markTrail s
  | .run => if accepted then act s else raise .protocol w s

end Sys2Proof.Machine
end

