-- ==== Sys2Proof/Machine/Catalog.lean ====
section
/-! DEFINITION. The catalog commands `CATCLR`, `CATK`, `CATLOCK` (41_catalog.md). -/

namespace Sys2Proof.Machine

/-- `CATCLR` (R90). -/
def execCatclr (s : State) : Result :=
  .next (idleOnly (encode .catclr)
    (fun s => if s.catlock then raise .protocol (encode .catclr) s else clearCatalog s) s)

/-- `CATK rgb` (R91): the checks in the order of its pseudocode, then the entry with `CATVAL[7:0]`. -/
def execCatk (rgb : Rgb) (s : State) : Result :=
  .next (idleOnly (encode (.catk rgb))
    (fun s =>
      if s.catlock then raise .protocol (encode (.catk rgb)) s
      else if s.catptr.val = 256 then raise .catalogFull (encode (.catk rgb)) s
      else writeEntry rgb (s.catval.extractLsb' 0 8) s) s)

/-- `CATLOCK` (R92): idempotent; an empty catalog is `MISSING_REFERENCE`. -/
def execCatlock (s : State) : Result :=
  .next (idleOnly (encode .catlock)
    (fun s =>
      if s.catlock then s
      else if s.catptr.val = 0 then raise .missingReference (encode .catlock) s
      else { s with catlock := true }) s)

end Sys2Proof.Machine
end

