-- ==== Sys2Proof/Machine/Control.lean ====
section
/-! DEFINITION. The control commands `NOP`, `SRST`, `WR`, `RD` (40_control.md). -/

namespace Sys2Proof.Machine

/-- `NOP` (R80): nothing, in every `STATE`. -/
def execNop (s : State) : Result := .next s

/-- `SRST` (R81): `reset()` in every `STATE`, the streams kept; the only command that leaves `FAULT`. -/
def execSrst (s : State) : Result := .next (resetKeepingStreams s)

/-- `WR reg, val` (R82). Of a read-only register it is an illegal word (R68), which the decoder never
gives as a command (log 9). -/
def execWr (reg : Reg) (val : Half) (s : State) : Result :=
  .next (if reg.writable then idleOnly (encode (.wr reg val)) (regWrite reg val) s
    else illegalWord (encode (.wr reg val)) s)

/-- `RD reg` (R83): one response word, in every `STATE`; nothing else changes. -/
def execRd (reg : Reg) (s : State) : Result :=
  .next { s with rsp := s.rsp ++ [(regRead s reg).setWidth 32] }

end Sys2Proof.Machine
end

