-- ==== Sys2Proof/Machine/Frame.lean ====
section
/-! DEFINITION. The frame commands `START`, `FEND` (42_frame.md). -/

namespace Sys2Proof.Machine

/-- The actions of an accepted `START` (R101). -/
def beginFrame (s : State) : State :=
  { clearFrameFlags s with xpos := 0, ypos := 0, pacc := 0, pcnt := 0, palcnt := 0, runState := .run }

/-- `START` (R100, R101): the checks in the order of its pseudocode, then the actions. -/
def execStart (s : State) : Result :=
  .next (idleOnly (encode .start)
    (fun s =>
      if reservedConfig s.ctrl then raise .badConfig (encode .start) s
      else if s.width = 0 ∨ s.height = 0 then raise .badConfig (encode .start) s
      else if s.width.toNat % ppb s.ctrl ≠ 0 then raise .badConfig (encode .start) s
      else if adaptive s.ctrl ∧ s.catlock = false then raise .missingReference (encode .start) s
      else beginFrame s) s)

/-- `FEND` (R104): the input has ended; nothing in `IDLE`, `MALFORMED_INPUT` in `RUN`. -/
def execFend (s : State) : Result :=
  .next (match s.runState with
    | .idle | .fault => s
    | .run => raise .malformedInput (encode .fend) s)

end Sys2Proof.Machine
end

