-- ==== Sys2Proof/Machine/Pixel.lean ====
section
/-! DEFINITION. The pixel commands `PXG`, `PXC`, `PXI` (43_quantizer.md, 44_ditherer.md, 45_packer.md). -/

namespace Sys2Proof.Machine

/-- The index of a grey pixel (R111); `DITH` through the table at the current position (R125). The other
modes do not accept `PXG`. -/
def greyIndex (i : Byte) (s : State) : Index :=
  match modeOf s.ctrl with
  | .dir1 => levelOf 128 i
  | .dir2 => levelOf 64 i
  | .dir4 => levelOf 16 i
  | .dith => (dither i s.xpos s.ypos).setWidth 4
  | .glob | .line | .raw | .reserved => 0

/-- `PXG i` (R110, R111). -/
def execPxg (i : Byte) (s : State) : Result :=
  .next (pixelFrame (encode (.pxg i)) (acceptsGrey (modeOf s.ctrl)) (fun s => packAdvance (greyIndex i s) s) s)

/-- `PXC rgb` (R110, R112). -/
def execPxc (rgb : Rgb) (s : State) : Result :=
  .next (pixelFrame (encode (.pxc rgb)) (acceptsColor (modeOf s.ctrl))
    (fun s => packAdvance (accumulate rgb s).1 (accumulate rgb s).2) s)

/-- `PXI idx` (R110, R133): an index that does not fit in `bpp()` bits is `PROTOCOL`. -/
def execPxi (idx : Index) (s : State) : Result :=
  .next (pixelFrame (encode (.pxi idx)) (acceptsIndex (modeOf s.ctrl))
    (fun s =>
      if 2 ^ bpp s.ctrl ≤ idx.toNat then raise .protocol (encode (.pxi idx)) s else packAdvance idx s) s)

end Sys2Proof.Machine
end

