-- ==== Sys2Proof/Machine/Dispatch.lean ====
section
/-! DEFINITION. The meaning of each command (40_control.md R85: "execute the rule of the command"). -/

namespace Sys2Proof.Machine

def exec (i : Instr) (s : State) : Host.Outcome State Fault Refusal :=
  match i with
  | .nop => Sys2Proof.Machine.execNop s
  | .srst => Sys2Proof.Machine.execSrst s
  | .wr reg val => Sys2Proof.Machine.execWr reg val s
  | .rd reg => Sys2Proof.Machine.execRd reg s
  | .catclr => Sys2Proof.Machine.execCatclr s
  | .catk rgb => Sys2Proof.Machine.execCatk rgb s
  | .catlock => Sys2Proof.Machine.execCatlock s
  | .start => Sys2Proof.Machine.execStart s
  | .fend => Sys2Proof.Machine.execFend s
  | .pxg grey => Sys2Proof.Machine.execPxg grey s
  | .pxc rgb => Sys2Proof.Machine.execPxc rgb s
  | .pxi idx => Sys2Proof.Machine.execPxi idx s

end Sys2Proof.Machine
end

