-- ==== Sys2Proof/Machine/Port.lean ====
section
/-! DEFINITION. The block's two inputs: the command port and the reset input (20_memory.md R44;
40_control.md R85; 70_reset_and_hazards.md R180). -/

namespace Sys2Proof.Machine

/-- `step(w)` of R85 for a word taken from `CMD`: the rule of the command it is, or the illegal word's. -/
def runWord (w : Word) (s : State) : Result :=
  match decode w with
  | .legal i => exec i s
  | .illegal _ => .next (illegalWord w s)

/-- The host's next action at the inputs. With none the block is idle and all state survives (R168; log
2). A word in transfer when reset is asserted is lost (R180; log 4). -/
def nextEvent (s : State) : Result :=
  match s.host with
  | [] => .next s
  | .word w :: rest => runWord w { s with host := rest }
  | .reset _ :: rest => .next (hardReset { s with host := rest })

end Sys2Proof.Machine
end

