-- ==== Sys2Proof/Machine/Step.lean ====
section
/-! DEFINITION. One step of the machine, and a command word placed where the next step takes it. -/

namespace Sys2Proof.Machine

/-- One step: the host's next action (R85; logs 1, 2, 4). -/
def step (s : State) : Host.Outcome State Fault Refusal := nextEvent s

/-- `s` with a word next in line at `CMD` (log 3): the host pushes it before everything else it will do. -/
def State.withFetchWord (s : State) (nbits w : Nat) : State :=
  { s with host := .word (wordOfBits nbits w) :: s.host }

end Sys2Proof.Machine
end

