-- ==== Sys2Proof/Safety.lean ====
section
/-! DEFINITION. What the statements are said in: the invariant of reachable states, the values reset
leaves, how a frame ends, and register contents as numbers. -/

namespace Sys2Proof.Machine

/-! ### Register contents as numbers -/

/-- `CTRL.MODE` as a number (R15). -/
def State.modeNum (s : State) : Nat := s.ctrl.toNat % 8

/-- `CTRL.RAWBPP` as a number (R15). -/
def State.rawbppNum (s : State) : Nat := s.ctrl.toNat / 16 % 4

/-- The number of `STATE` (R11). -/
def State.stateNum (s : State) : Nat :=
  match s.runState with
  | .idle => 0
  | .run => 1
  | .fault => 2

/-- The value `RD` of a register returns, as a number, field by field (R15 to R23, R32). -/
def registerNat (s : State) : Reg → Nat
  | .ctrl => s.modeNum + 16 * s.rawbppNum
  | .width => s.width.toNat
  | .height => s.height.toNat
  | .catval => s.catval.toNat % 256
  | .status =>
    s.stateNum + 4 * s.done.toNat + 8 * s.catlock.toNat + 16 * s.ovfl.toNat + 32 * s.ovf.toNat +
      64 * s.unr.toNat + 128 * s.trail.toNat + 256 * s.palcnt.val
  | .fcode => s.fcode.toNat
  | .xpos => s.xpos.toNat
  | .ypos => s.ypos.toNat
  | .catptr => s.catptr.val
  | .ovfcnt => s.ovfcnt.toNat
  | .unrcnt => s.unrcnt.toNat

/-- The conditions under which `START` executes normally (R100). -/
structure StartAccepted (s : State) : Prop where
  idle : s.runState = .idle
  mode : s.modeNum ≠ 7 ∧ ¬(s.modeNum = 6 ∧ s.rawbppNum = 3)
  size : s.width ≠ 0 ∧ s.height ≠ 0
  whole : s.width.toNat % ppb s.ctrl = 0
  frozen : s.modeNum = 4 ∨ s.modeNum = 5 → s.catlock = true

/-- A pixel command the mode of a frame accepts, with an index that fits (R110, R133). -/
def acceptedPixel (ctrl : Half) : Instr → Bool
  | .pxg _ => acceptsGrey (modeOf ctrl)
  | .pxc _ => acceptsColor (modeOf ctrl)
  | .pxi idx => acceptsIndex (modeOf ctrl) && idx.toNat < 2 ^ bpp ctrl
  | .nop | .srst | .wr _ _ | .rd _ | .catclr | .catk _ | .catlock | .start | .fend => false

/-! ### Reset -/

/-- The values R33 gives after reset, for everything but the output streams. The contents of unpopulated
slots and invalid entries are not among them (I28). -/
structure AtReset (s : State) : Prop where
  runState : s.runState = .idle
  position : s.xpos = 0 ∧ s.ypos = 0
  config : s.ctrl = 0 ∧ s.width = 0 ∧ s.height = 0 ∧ s.catval = 0
  flags : s.done = false ∧ s.catlock = false ∧ s.ovfl = false ∧ s.ovf = false ∧ s.unr = false ∧ s.trail = false
  fcode : s.fcode = 0
  counters : s.ovfcnt = 0 ∧ s.unrcnt = 0
  palette : s.palcnt = 0
  catalog : s.catptr = 0 ∧ ∀ e : Fin 256, (s.cat[e]).valid = false
  packer : s.pacc = 0 ∧ s.pcnt = 0

/-- The host's next action is a reset of the block: the reset input, or the word of `SRST` (R161). -/
def resetNext (s : State) : Bool :=
  match s.host with
  | .reset _ :: _ => true
  | .word w :: _ => w == encode .srst
  | [] => false

/-- The host's next action is the reset input (R180). -/
def hardResetNext (s : State) : Bool :=
  match s.host with
  | .reset _ :: _ => true
  | .word _ :: _ | [] => false

/-! ### How a frame ends (R108) -/

/-- The frame completed: `STATE = IDLE` and `DONE = 1`. -/
def FrameCompleted (s : State) : Prop := s.runState = .idle ∧ s.done = true

/-- The frame failed: `STATE = FAULT`; it has no output. -/
def FrameFailed (s : State) : Prop := s.runState = .fault

/-- The number of pixels of the frame already accepted (R48). -/
def State.position (s : State) : Nat := s.ypos.toNat * s.width.toNat + s.xpos.toNat

/-- The number of pixels of the whole frame. -/
def State.frameSize (s : State) : Nat := s.width.toNat * s.height.toNat

/-- Palette bytes of a completed frame, by the mode (R53). -/
def paletteBytes (s : State) : Nat :=
  if s.modeNum = 4 then 4 else if s.modeNum = 5 then 4 * s.height.toNat else 0

/-- `n` steps. -/
def steps : Nat → State → Result
  | 0, s => .next s
  | n + 1, s =>
    match step s with
    | .next t => steps n t
    | .fault r => .fault r
    | .refused r => .refused r

/-- Every one of the first `n` states of a run, the starting one included, is in `RUN`. -/
def RunsFor (n : Nat) (s : State) : Prop :=
  ∀ m, m < n → ∃ u, steps m s = .next u ∧ u.runState = .run

/-! ### The invariant -/

/-- Entry `e` is valid exactly when `e < CATPTR`; a locked catalog is not empty (R27, R92). -/
structure CatalogOk (s : State) : Prop where
  valid : ∀ e : Fin 256, (s.cat[e]).valid = decide (e.val < s.catptr.val)
  locked : s.catlock = true → 0 < s.catptr.val

/-- The raster, the configuration of a running frame and the packer (R13, R29, R100, R130). -/
structure RasterOk (s : State) : Prop where
  idle : s.runState = .idle → s.xpos = 0 ∧ s.pcnt = 0 ∧ s.pacc = 0
  config : s.runState = .run → reservedConfig s.ctrl = false ∧ s.width.toNat % ppb s.ctrl = 0 ∧
    (adaptive s.ctrl = true → s.catlock = true)
  inside : s.runState = .run → s.xpos < s.width ∧ s.ypos < s.height
  packer : s.runState = .run → s.pcnt.val = s.xpos.toNat % ppb s.ctrl ∧
    s.pacc.toNat < 2 ^ (bpp s.ctrl * s.pcnt.val)

/-- The palette accumulator (R26, R113, R116, R141): populated keys are pairwise distinct, each slot holds
what the frozen catalog gives for its key, and only a full accumulator overflows. -/
structure AccumulatorOk (s : State) : Prop where
  distinct : ∀ j k : Fin 4, j.val < s.palcnt.val → k.val < s.palcnt.val → (s.ps[j]).key = (s.ps[k]).key → j = k
  frozen : 0 < s.palcnt.val → s.catlock = true
  hardware : ∀ k : Fin 4, k.val < s.palcnt.val → (s.ps[k]).hw = (catLookup s (s.ps[k]).key).getD 0
  unused : s.runState = .run → adaptive s.ctrl = false → s.palcnt.val = 0
  overflow : s.ovfl = true → s.palcnt.val = 4

/-- Registers, flags, counters and the diagnostic stream (R11, R15, R18, R20, R22 to R24, R151, R154). -/
structure StatusOk (s : State) : Prop where
  reserved : s.ctrl &&& ctrlMask = s.ctrl ∧ s.catval &&& catvalMask = s.catval
  fcode : s.fcode = 0 ↔ s.runState ≠ .fault
  running : s.runState = .run → s.done = false ∧ s.trail = false
  sticky : s.ovfl = true → s.ovf = true
  overflows : s.ovf = true ↔ s.ovfcnt ≠ 0
  unreachable : s.unr = true ↔ s.unrcnt ≠ 0
  codes : s.fcode ∈ ([0x00, 0x01, 0x02, 0x04, 0x05, 0x06, 0x07] : List Byte) ∧
    ∀ r ∈ s.diag, r.code ∈ ([0x01, 0x02, 0x04, 0x05, 0x06, 0x07, 0x10, 0x11] : List Byte)

/-- The invariant every reachable state meets. -/
structure State.Inv (s : State) : Prop where
  catalog : CatalogOk s
  raster : RasterOk s
  accumulator : AccumulatorOk s
  status : StatusOk s

/-! ### What has no observable value (I28) -/

/-- Two states that differ at most in the contents of unpopulated slots and invalid entries. -/
structure SameButDead (s t : State) : Prop where
  rest : t = { s with ps := t.ps, cat := t.cat }
  slots : ∀ k : Fin 4, k.val < s.palcnt.val → t.ps[k] = s.ps[k]
  entries : ∀ e : Fin 256, e.val < s.catptr.val → t.cat[e] = s.cat[e]
  valid : ∀ e : Fin 256, (t.cat[e]).valid = (s.cat[e]).valid

end Sys2Proof.Machine
end

