-- ==== Sys2Proof/Certificates/Slice0/Obligations.lean ====
section
/-! DEFINITION. The statements for the provers, grouped as the spec's files are. -/

open Sys2Proof Sys2Proof.Machine

/-! ### Encoding (30_encoding.md) -/

/-- R61, R62, R64: no bit of an encoding is dropped; every operand at every value. -/
def Obligations.DecodeOfEncode : Prop :=
  ∀ i : Instr, i.WellFormed → decode (encode i) = .legal i

/-- R62, R64: a legal word is the encoding of its command, so the word a fault records is the word the
host pushed (log 9). -/
def Obligations.EncodeOfDecode : Prop :=
  ∀ (w : Word) (i : Instr), decode w = .legal i → i.WellFormed ∧ encode i = w

/-- R64 with R62's rows and R68's register numbers. -/
def Obligations.LegalExactlyByOneRow : Prop :=
  ∀ w : Word, (∃ i, decode w = .legal i) ↔
    (opcodeRows.filter (rowMatches w)).length = 1 ∧
      (opField w = 0x02 → regField w ∈ ([0x00, 0x01, 0x02, 0x03] : List (BitVec 8))) ∧
      (opField w = 0x03 → regField w ∈
        ([0x00, 0x01, 0x02, 0x03, 0x08, 0x09, 0x0A, 0x0B, 0x0C, 0x0D, 0x0E] : List (BitVec 8)))

/-- R66: a defined opcode with a 1 in a reserved field is illegal; `WR`, `CATK` and `PXC` have no reserved
payload bits (what `WR` asks of its register is R68). -/
def Obligations.ReservedPayloadBitsAreIllegal : Prop :=
  ∀ w : Word,
    (opField w ∈ ([0x00, 0x01, 0x10, 0x12, 0x20, 0x21] : List (BitVec 8)) ∧ w.toNat % 2 ^ 24 ≠ 0 ∨
      opField w = 0x03 ∧ w.toNat % 2 ^ 16 ≠ 0 ∨
      opField w = 0x30 ∧ w.toNat / 2 ^ 8 % 2 ^ 16 ≠ 0 ∨
      opField w = 0x32 ∧ w.toNat / 2 ^ 4 % 2 ^ 20 ≠ 0 →
      ∀ i : Instr, decode w ≠ .legal i) ∧
    (opField w = 0x11 ∨ opField w = 0x31 ∨
      opField w = 0x02 ∧ regField w ∈ ([0x00, 0x01, 0x02, 0x03] : List (BitVec 8)) →
      ∃ i : Instr, decode w = .legal i)

/-- Words written out from the formats of R61: one of each command, and R67's two. -/
def Obligations.WordsOfTheEncodings : Prop :=
  decode 0x00000000 = .legal .nop ∧ decode 0x01000000 = .legal .srst ∧
    decode 0x0201ABCD = .legal (.wr .width 0xABCD) ∧ decode 0x030E0000 = .legal (.rd .unrcnt) ∧
    decode 0x10000000 = .legal .catclr ∧ decode 0x11123456 = .legal (.catk 0x123456) ∧
    decode 0x12000000 = .legal .catlock ∧ decode 0x20000000 = .legal .start ∧
    decode 0x21000000 = .legal .fend ∧ decode 0x300000C0 = .legal (.pxg 0xC0) ∧
    decode 0x31FEDCBA = .legal (.pxc 0xFEDCBA) ∧ decode 0x3200000A = .legal (.pxi 0xA) ∧
    decode 0xFFFFFFFF = .illegal .reservedOpcode

/-! ### The command step (40_control.md, 20_memory.md) -/

/-- R85: a word that is a command runs as its rule says, with the word taken from `CMD` and nothing else
around it. -/
def Obligations.StepRunsTheDecodedCommand : Prop :=
  ∀ (s : State) (w : Word) (rest : List HostEvent) (i : Instr),
    s.host = .word w :: rest → decode w = .legal i → step s = exec i { s with host := rest }

/-- R155, R160, R162: an illegal word raises `ILLEGAL_COMMAND` in `IDLE` and `RUN`, before any state or mode
check, and is dropped in `FAULT`. -/
def Obligations.StepOnAnIllegalWord : Prop :=
  ∀ (s : State) (w : Word) (rest : List HostEvent) (why : DecodeError),
    s.host = .word w :: rest → decode w = .illegal why →
    (s.runState ≠ .fault →
      step s = .next { s with host := rest, diag := s.diag ++ [⟨0x04, s.ypos, s.xpos, w⟩],
                              fcode := 0x04, runState := .fault }) ∧
    (s.runState = .fault → step s = .next { s with host := rest })

/-- R168: idle whenever `CMD` is empty, and all state survives. The model's own convention for an empty
input list is log 2. -/
def Obligations.IdleStepKeepsTheState : Prop :=
  ∀ s : State, s.host = [] → step s = .next s

/-- R191, R54: every word has a defined outcome, and each step takes exactly one of the host's actions. -/
def Obligations.EveryStepAnswersAndTakesOneAction : Prop :=
  ∀ s : State, ∃ t, step s = .next t ∧ t.host = s.host.tail

/-- R30: the output streams are append-only; only the reset input empties them (R180). -/
def Obligations.StreamsAreAppendOnly : Prop :=
  ∀ s t : State, hardResetNext s = false → step s = .next t →
    s.pixout <+: t.pixout ∧ s.palout <+: t.palout ∧ s.diag <+: t.diag ∧ s.rsp <+: t.rsp

/-! ### Reset (10_state.md, 70_reset_and_hazards.md) -/

/-- R33: the reset state. -/
def Obligations.ResetStateValues : Prop :=
  AtReset State.reset ∧ State.reset.pixout = [] ∧ State.reset.palout = [] ∧ State.reset.diag = [] ∧
    State.reset.rsp = []

/-- R180: the reset input, at any time; a word in transfer is lost; the streams are emptied. -/
def Obligations.HardwareResetStep : Prop :=
  ∀ (s : State) (lost : Option Word) (rest : List HostEvent), s.host = .reset lost :: rest →
    ∃ t, step s = .next t ∧ AtReset t ∧ t.pixout = [] ∧ t.palout = [] ∧ t.diag = [] ∧ t.rsp = [] ∧ t.host = rest

/-- R81, R181: `SRST` in every `STATE`. -/
def Obligations.SrstResetsAllButTheStreams : Prop :=
  ∀ s : State, ∃ t, exec .srst s = .next t ∧ AtReset t ∧ t.pixout = s.pixout ∧ t.palout = s.palout ∧
    t.diag = s.diag ∧ t.rsp = s.rsp ∧ t.host = s.host

/-! ### Control commands (40_control.md) -/

/-- R80: `NOP` does nothing, in every `STATE`; its word only leaves the port. -/
def Obligations.NopChangesNothing : Prop :=
  ∀ s : State, exec .nop s = .next s ∧
    ∀ rest, s.host = .word 0x00000000 :: rest → step s = .next { s with host := rest }

/-- R82, R41: `WR` in `IDLE` stores the masked value in the register named and changes nothing else; in
`RUN` it is `PROTOCOL`; of a register that is not writable it is no legal word. -/
def Obligations.WrWritesOneRegister : Prop :=
  ∀ (s : State) (v : Half),
    (s.runState = .idle →
      exec (.wr .ctrl v) s = .next { s with ctrl := v &&& 0x0037 } ∧
      exec (.wr .width v) s = .next { s with width := v } ∧
      exec (.wr .height v) s = .next { s with height := v } ∧
      exec (.wr .catval v) s = .next { s with catval := v &&& 0x00FF }) ∧
    (s.runState = .run → ∀ r : Reg, r.writable = true →
      exec (.wr r v) s = .next (raise .protocol (encode (.wr r v)) s)) ∧
    (∀ r : Reg, r.writable = false → ∀ i, decode (encode (.wr r v)) ≠ .legal i)

/-- R83, R41: `RD` in every `STATE` appends one word, the register's value zero-extended, and changes no
other state; `registerNat` gives the values field by field (R15 to R23). -/
def Obligations.RdAppendsTheRegister : Prop :=
  ∀ (s : State) (r : Reg),
    ∃ v : Word, exec (.rd r) s = .next { s with rsp := s.rsp ++ [v] } ∧ v.toNat = registerNat s r

/-- R192: an `RD` directly after a `WR` sees the new value. -/
def Obligations.ReadAfterWriteSeesTheValue : Prop :=
  ∀ (s t : State) (v : Half), s.runState = .idle →
    (exec (.wr .ctrl v) s = .next t → exec (.rd .ctrl) t = .next { t with rsp := s.rsp ++ [(v &&& 0x0037).setWidth 32] }) ∧
    (exec (.wr .width v) s = .next t → exec (.rd .width) t = .next { t with rsp := s.rsp ++ [v.setWidth 32] }) ∧
    (exec (.wr .height v) s = .next t → exec (.rd .height) t = .next { t with rsp := s.rsp ++ [v.setWidth 32] }) ∧
    (exec (.wr .catval v) s = .next t → exec (.rd .catval) t = .next { t with rsp := s.rsp ++ [(v &&& 0x00FF).setWidth 32] })

/-! ### The catalog (41_catalog.md) -/

/-- R90: `CATCLR`. -/
def Obligations.CatclrEmptiesTheCatalog : Prop :=
  ∀ s : State,
    (s.runState = .idle → s.catlock = false →
      ∃ t : Vector CatEntry 256, exec .catclr s = .next { s with cat := t, catptr := 0 } ∧
        ∀ e : Fin 256, (t[e]).valid = false ∧ (t[e]).key = (s.cat[e]).key ∧ (t[e]).val = (s.cat[e]).val) ∧
    (s.runState = .run → exec .catclr s = .next (raise .protocol 0x10000000 s)) ∧
    (s.runState = .idle → s.catlock = true → exec .catclr s = .next (raise .protocol 0x10000000 s))

/-- R91: `CATK` writes entry `CATPTR` with `CATVAL[7:0]`; its checks in their order. -/
def Obligations.CatkAppendsOneEntry : Prop :=
  ∀ (s : State) (rgb : Rgb),
    (s.runState = .idle → s.catlock = false → ∀ h : s.catptr.val < 256,
      ∃ (t : Vector CatEntry 256) (p : Fin 257),
        exec (.catk rgb) s = .next { s with cat := t, catptr := p } ∧ p.val = s.catptr.val + 1 ∧
        (t[s.catptr.val]).valid = true ∧ (t[s.catptr.val]).key = rgb ∧
        (t[s.catptr.val]).val.toNat = s.catval.toNat % 256 ∧
        ∀ e : Fin 256, e.val ≠ s.catptr.val → t[e] = s.cat[e]) ∧
    (s.runState = .run → exec (.catk rgb) s = .next (raise .protocol (encode (.catk rgb)) s)) ∧
    (s.runState = .idle → s.catlock = true → exec (.catk rgb) s = .next (raise .protocol (encode (.catk rgb)) s)) ∧
    (s.runState = .idle → s.catlock = false → s.catptr.val = 256 →
      exec (.catk rgb) s = .next (raise .catalogFull (encode (.catk rgb)) s))

/-- R92: `CATLOCK`. -/
def Obligations.CatlockFreezesTheCatalog : Prop :=
  ∀ s : State,
    (s.runState = .idle → 0 < s.catptr.val → exec .catlock s = .next { s with catlock := true }) ∧
    (s.runState = .idle → s.catlock = true → exec .catlock s = .next s) ∧
    (s.runState = .idle → s.catlock = false → s.catptr.val = 0 →
      exec .catlock s = .next (raise .missingReference 0x12000000 s)) ∧
    (s.runState = .run → exec .catlock s = .next (raise .protocol 0x12000000 s))

/-- R94: the exact lookup misses when no loaded entry has the key, and otherwise gives the value of the
lowest-numbered entry with it. -/
def Obligations.LookupGivesTheLowestEntry : Prop :=
  ∀ (s : State) (rgb : Rgb),
    ((∀ e : Fin 256, e.val < s.catptr.val → (s.cat[e]).key ≠ rgb) → catLookup s rgb = none) ∧
    ∀ e : Fin 256, e.val < s.catptr.val → (s.cat[e]).key = rgb →
      (∀ f : Fin 256, f.val < e.val → (s.cat[f]).key ≠ rgb) → catLookup s rgb = some (s.cat[e]).val

/-- R95, the variant `NEAREST`: the entry at the smallest squared distance, the lowest-numbered one on a
tie; it always hits on a catalog that is not empty. -/
def Obligations.NearestLookupMinimisesTheDistance : Prop :=
  ∀ (s : State) (rgb : Rgb) (d : Fin 256 → Int),
    (∀ e : Fin 256, d e =
      ((rgb.toNat / 65536 : Nat) - (s.cat[e].key.toNat / 65536 : Nat) : Int) ^ 2 +
      ((rgb.toNat / 256 % 256 : Nat) - (s.cat[e].key.toNat / 256 % 256 : Nat) : Int) ^ 2 +
      ((rgb.toNat % 256 : Nat) - (s.cat[e].key.toNat % 256 : Nat) : Int) ^ 2) →
    (0 < s.catptr.val → lookupWith .nearest (loaded s) rgb ≠ none) ∧
    ∀ e : Fin 256, e.val < s.catptr.val →
      (∀ f : Fin 256, f.val < s.catptr.val → d e ≤ d f) → (∀ f : Fin 256, f.val < e.val → d e < d f) →
      lookupWith .nearest (loaded s) rgb = some (s.cat[e]).val

/-- R27, R96: once locked, no step but a reset changes the catalog or unlocks it. -/
def Obligations.LockedCatalogNeverChanges : Prop :=
  ∀ s t : State, s.catlock = true → resetNext s = false → step s = .next t →
    t.cat = s.cat ∧ t.catptr = s.catptr ∧ t.catlock = true

/-! ### Frames and the raster (42_frame.md) -/

/-- R101: an accepted `START`. -/
def Obligations.StartBeginsAFrame : Prop :=
  ∀ s : State, StartAccepted s →
    exec .start s =
      .next { s with xpos := 0, ypos := 0, pacc := 0, pcnt := 0, palcnt := 0, done := false, ovfl := false,
                     ovf := false, unr := false, trail := false, ovfcnt := 0, unrcnt := 0, runState := .run }

/-- R100: the checks of `START`, in their order; the word of each record is `0x20000000`. -/
def Obligations.StartChecksInOrder : Prop :=
  ∀ s : State,
    (s.runState = .run → exec .start s = .next (raise .protocol 0x20000000 s)) ∧
    (s.runState = .idle →
      (s.modeNum = 7 ∨ s.modeNum = 6 ∧ s.rawbppNum = 3 → exec .start s = .next (raise .badConfig 0x20000000 s)) ∧
      (s.width = 0 ∨ s.height = 0 → exec .start s = .next (raise .badConfig 0x20000000 s)) ∧
      (s.modeNum ≠ 7 → ¬(s.modeNum = 6 ∧ s.rawbppNum = 3) → s.width.toNat % ppb s.ctrl ≠ 0 →
        exec .start s = .next (raise .badConfig 0x20000000 s)) ∧
      (s.width ≠ 0 → s.height ≠ 0 → s.width.toNat % ppb s.ctrl = 0 → s.modeNum = 4 ∨ s.modeNum = 5 →
        s.catlock = false → exec .start s = .next (raise .missingReference 0x20000000 s)))

/-- R104: `FEND`. -/
def Obligations.FendEndsTheInput : Prop :=
  ∀ s : State,
    (s.runState = .idle → exec .fend s = .next s) ∧
    (s.runState = .run → exec .fend s = .next (raise .malformedInput 0x21000000 s))

/-- R105 to R107: the raster advance, the scanline end and the frame end, case by case. -/
def Obligations.AdvanceMovesOnePixel : Prop :=
  ∀ s : State, ∀ bytes : List Byte,
    bytes = [if 0 < s.palcnt.val then s.ps[0].hw else 0, if 1 < s.palcnt.val then s.ps[1].hw else 0,
      if 2 < s.palcnt.val then s.ps[2].hw else 0, if 3 < s.palcnt.val then s.ps[3].hw else 0] →
    (s.xpos + 1 ≠ s.width → advance s = { s with xpos := s.xpos + 1 }) ∧
    (s.xpos + 1 = s.width → s.ypos + 1 ≠ s.height →
      (s.modeNum ≠ 5 → advance s = { s with xpos := 0, ypos := s.ypos + 1 }) ∧
      (s.modeNum = 5 →
        advance s = { s with xpos := 0, ypos := s.ypos + 1, palout := s.palout ++ bytes, palcnt := 0,
                             ovfl := false })) ∧
    (s.xpos + 1 = s.width → s.ypos + 1 = s.height →
      (s.modeNum ≠ 4 → s.modeNum ≠ 5 →
        advance s = { s with xpos := 0, ypos := s.ypos + 1, runState := .idle, done := true }) ∧
      (s.modeNum = 4 →
        advance s = { s with xpos := 0, ypos := s.ypos + 1, palout := s.palout ++ bytes, runState := .idle,
                             done := true }) ∧
      (s.modeNum = 5 →
        advance s = { s with xpos := 0, ypos := s.ypos + 1, palout := s.palout ++ bytes, palcnt := 0,
                             ovfl := false, runState := .idle, done := true }))

/-- R48, R13, R105: after `n` accepted pixels of a frame, fewer than the whole, the frame runs on and the
next pixel is at column `n mod WIDTH`, row `n div WIDTH`. -/
def Obligations.PixelNumberGivesThePosition : Prop :=
  ∀ (s : State) (pixels : List Instr) (rest : List HostEvent), s.Inv → s.runState = .run → s.xpos = 0 → s.ypos = 0 →
    (∀ i ∈ pixels, acceptedPixel s.ctrl i = true) →
    s.host = pixels.map (fun i => .word (encode i)) ++ rest → pixels.length < s.frameSize →
    ∃ t, steps pixels.length s = .next t ∧ t.runState = .run ∧ t.host = rest ∧
      t.xpos.toNat = pixels.length % s.width.toNat ∧ t.ypos.toNat = pixels.length / s.width.toNat

/-- R101, R107: a frame of `WIDTH*HEIGHT` pixels completes on exactly that many accepted pixel commands;
after it `XPOS = 0`, `YPOS = HEIGHT`, `PCNT = 0`. -/
def Obligations.FrameCompletesOnItsLastPixel : Prop :=
  ∀ (s : State) (pixels : List Instr) (rest : List HostEvent), s.Inv → s.runState = .run →
    (∀ i ∈ pixels, acceptedPixel s.ctrl i = true) →
    s.host = pixels.map (fun i => .word (encode i)) ++ rest → s.position + pixels.length = s.frameSize →
    ∃ t, steps pixels.length s = .next t ∧ FrameCompleted t ∧ t.host = rest ∧ t.xpos = 0 ∧
      t.ypos = s.height ∧ t.pcnt = 0 ∧ RunsFor pixels.length s

/-- R48 with R131: byte `m` of a `RAW` frame holds the pixels `m*ppb()` to `m*ppb() + ppb() - 1`, the first of them
most significant. -/
def Obligations.RawFrameBytesHoldThePixels : Prop :=
  ∀ (s : State) (pixels : List Index) (rest : List HostEvent), s.Inv → s.runState = .run → s.modeNum = 6 →
    s.xpos = 0 → s.ypos = 0 → (∀ idx ∈ pixels, idx.toNat < 2 ^ bpp s.ctrl) →
    s.host = pixels.map (fun idx => .word (encode (.pxi idx))) ++ rest → pixels.length = s.frameSize →
    ∃ (t : State) (bytes : List Byte), steps pixels.length s = .next t ∧ t.pixout = s.pixout ++ bytes ∧
      bytes.length * ppb s.ctrl = pixels.length ∧
      ∀ m k : Nat, k < ppb s.ctrl → ∀ hm : m < bytes.length, ∀ hk : m * ppb s.ctrl + k < pixels.length,
        (bytes[m]).toNat / 2 ^ (bpp s.ctrl * (ppb s.ctrl - 1 - k)) % 2 ^ bpp s.ctrl =
          (pixels[m * ppb s.ctrl + k]).toNat

/-- R53: the bytes a completed frame has appended. -/
def Obligations.CompletedFrameByteCounts : Prop :=
  ∀ (s t : State) (n : Nat), s.Inv → s.runState = .run → s.xpos = 0 → s.ypos = 0 → RunsFor n s →
    steps n s = .next t → FrameCompleted t →
    t.pixout.length = s.pixout.length + s.width.toNat / ppb s.ctrl * s.height.toNat ∧
    t.palout.length = s.palout.length + paletteBytes s

/-! ### Pixels (43_quantizer.md, 44_ditherer.md, 45_packer.md) -/

/-- R110: a pixel command in `IDLE` is dropped, whatever its kind, and `TRAIL` records it. -/
def Obligations.PixelInIdleSetsTrailOnly : Prop :=
  ∀ (s : State) (i : Byte) (rgb : Rgb) (idx : Index), s.runState = .idle →
    exec (.pxg i) s = .next { s with trail := true } ∧ exec (.pxc rgb) s = .next { s with trail := true } ∧
      exec (.pxi idx) s = .next { s with trail := true }

/-- R110, R156: in `RUN` a pixel of a kind the mode does not accept is `PROTOCOL`. -/
def Obligations.PixelOfTheWrongKindFaults : Prop :=
  ∀ (s : State) (i : Byte) (rgb : Rgb) (idx : Index), s.runState = .run →
    (4 ≤ s.modeNum → exec (.pxg i) s = .next (raise .protocol (encode (.pxg i)) s)) ∧
    (s.modeNum ≠ 4 → s.modeNum ≠ 5 → exec (.pxc rgb) s = .next (raise .protocol (encode (.pxc rgb)) s)) ∧
    (s.modeNum ≠ 6 → exec (.pxi idx) s = .next (raise .protocol (encode (.pxi idx)) s))

/-- R111, R125: the index of a grey pixel in each mode, packed and advanced over. -/
def Obligations.PxgClassifiesOrDithers : Prop :=
  ∀ (s : State) (i : Byte), s.runState = .run → s.modeNum ≤ 3 →
    ∃ k : Index, exec (.pxg i) s = .next (advance (pack k s)) ∧
      (s.modeNum = 0 → k.toNat = i.toNat / 128) ∧ (s.modeNum = 1 → k.toNat = i.toNat / 64) ∧
      (s.modeNum = 2 → k.toNat = i.toNat / 16) ∧
      (s.modeNum = 3 → k.toNat = (Config.ditherLut.level (Fin.ofNat 16 (i.toNat / 16))
        (Fin.ofNat 4 s.xpos.toNat) (Fin.ofNat 4 s.ypos.toNat)).toNat)

/-- R112: the index of a colour pixel is the accumulator's, packed and advanced over. -/
def Obligations.PxcAccumulatesPacksAdvances : Prop :=
  ∀ (s : State) (rgb : Rgb), s.runState = .run → s.modeNum = 4 ∨ s.modeNum = 5 →
    exec (.pxc rgb) s = .next (advance (pack (accumulate rgb s).1 (accumulate rgb s).2))

/-- R133: a raw index that fits in `bpp()` bits is packed and advanced over; one that does not is
`PROTOCOL`. -/
def Obligations.PxiPacksAnIndexThatFits : Prop :=
  ∀ (s : State) (idx : Index) (b : Nat), s.runState = .run → s.modeNum = 6 →
    (s.rawbppNum = 0 ∧ b = 1 ∨ s.rawbppNum = 1 ∧ b = 2 ∨ s.rawbppNum = 2 ∧ b = 4) →
    (idx.toNat < 2 ^ b → exec (.pxi idx) s = .next (advance (pack idx s))) ∧
    (2 ^ b ≤ idx.toNat → exec (.pxi idx) s = .next (raise .protocol (encode (.pxi idx)) s))

/-- R113: a colour a populated slot already holds keeps that slot's index, and nothing changes. -/
def Obligations.KnownColourKeepsItsIndex : Prop :=
  ∀ (s : State) (rgb : Rgb) (k : Fin 4), AccumulatorOk s → k.val < s.palcnt.val → (s.ps[k]).key = rgb →
    accumulate rgb s = (BitVec.ofNat 4 k.val, s)

/-- R113, R115: a new colour takes the next free slot, with the catalog's value, or with 0 and an
`UNREACHABLE_COLOR` event. -/
def Obligations.NewColourTakesTheNextSlot : Prop :=
  ∀ (s : State) (rgb : Rgb), (∀ k : Fin 4, k.val < s.palcnt.val → (s.ps[k]).key ≠ rgb) →
    ∀ h : s.palcnt.val < 4, ∃ (p : Vector Slot 4) (n : Fin 5), n.val = s.palcnt.val + 1 ∧ (p[s.palcnt.val]).key = rgb ∧
      (∀ k : Fin 4, k.val ≠ s.palcnt.val → p[k] = s.ps[k]) ∧
      (∀ v, catLookup s rgb = some v → (p[s.palcnt.val]).hw = v ∧
        accumulate rgb s = (BitVec.ofNat 4 s.palcnt.val, { s with ps := p, palcnt := n })) ∧
      (catLookup s rgb = none → (p[s.palcnt.val]).hw = 0 ∧ ∃ c : Half, c.toNat = min (s.unrcnt.toNat + 1) 0xFFFF ∧
        accumulate rgb s = (BitVec.ofNat 4 s.palcnt.val,
          { s with ps := p, palcnt := n, unr := true, unrcnt := c,
                   diag := s.diag ++ [⟨0x11, s.ypos, s.xpos, rgb.setWidth 32⟩] }))

/-- R113, R114, R116: a colour beyond the fourth gets index 0; the first of a scope is reported, the later
ones change nothing. -/
def Obligations.FifthColourClampsToIndexZero : Prop :=
  ∀ (s : State) (rgb : Rgb), (∀ k : Fin 4, (s.ps[k]).key ≠ rgb) → s.palcnt.val = 4 →
    (s.ovfl = false → ∃ c : Half, c.toNat = min (s.ovfcnt.toNat + 1) 0xFFFF ∧
      accumulate rgb s =
        (0, { s with ovfl := true, ovf := true, ovfcnt := c,
                     diag := s.diag ++ [⟨0x10, s.ypos, s.xpos, rgb.setWidth 32⟩] })) ∧
    (s.ovfl = true → accumulate rgb s = (0, s))

/-- R117: the index packed for a colour is that of a populated slot, which holds the colour unless it is
the overflow alias 0 of a full accumulator; no populated slot is lost. -/
def Obligations.PackedIndexResolvesToItsSlot : Prop :=
  ∀ (s : State) (rgb : Rgb), AccumulatorOk s →
    ∃ k : Fin 4, (accumulate rgb s).1.toNat = k.val ∧ k.val < (accumulate rgb s).2.palcnt.val ∧
      ((((accumulate rgb s).2.ps[k]).key = rgb) ∨ k.val = 0 ∧ s.palcnt.val = 4) ∧
      ∀ j : Fin 4, j.val < s.palcnt.val → (accumulate rgb s).2.ps[j] = s.ps[j]

/-- R121, R122, R123: LUT-ZERO, LUT-FULL and LUT-MONO as the ditherer shows them, for every legal table; the
table is a free value under these constraints (log 5). The third clause is LUT-MONO cell by cell, which R123
marks as the spec's own reading of "monotonically add coverage" (log 5). -/
def Obligations.DitherMeetsTheTableConstraints : Prop :=
  ∀ (i j : Byte) (x y : Half),
    (i.toNat < 16 → dither i x y = 0) ∧ (240 ≤ i.toNat → dither i x y = 3) ∧
    (i.toNat / 16 ≤ j.toNat / 16 → dither i x y ≤ dither j x y)

/-- R126: the level depends on the bucket and the tile cell alone. -/
def Obligations.DitherDependsOnBucketAndCell : Prop :=
  ∀ (i j : Byte) (x y x' y' : Half), i.toNat / 16 = j.toNat / 16 → x.toNat % 4 = x'.toNat % 4 →
    y.toNat % 4 = y'.toNat % 4 → dither i x y = dither j x' y'

/-- R15: bits of an index in each mode. -/
def Obligations.BitsOfAnIndexByMode : Prop :=
  ∀ s : State,
    (s.modeNum = 0 → bpp s.ctrl = 1) ∧ (s.modeNum = 1 ∨ s.modeNum = 3 ∨ s.modeNum = 4 ∨ s.modeNum = 5 → bpp s.ctrl = 2) ∧
    (s.modeNum = 2 → bpp s.ctrl = 4) ∧ (s.modeNum = 6 → s.rawbppNum = 0 → bpp s.ctrl = 1) ∧
    (s.modeNum = 6 → s.rawbppNum = 1 → bpp s.ctrl = 2) ∧ (s.modeNum = 6 → s.rawbppNum = 2 → bpp s.ctrl = 4)

/-- R130: `pack`. -/
def Obligations.PackShiftsInOneIndex : Prop :=
  ∀ (s : State) (idx : Index), ∃ acc : Byte,
    acc.toNat = (s.pacc.toNat * 2 ^ bpp s.ctrl ||| idx.toNat) % 256 ∧
    (s.pcnt.val + 1 = ppb s.ctrl →
      pack idx s = { s with pixout := s.pixout ++ [acc], pacc := 0, pcnt := 0 }) ∧
    (s.pcnt.val + 1 ≠ ppb s.ctrl → s.pcnt.val < 7 →
      ∃ n : Fin 8, n.val = s.pcnt.val + 1 ∧ pack idx s = { s with pacc := acc, pcnt := n })

/-- R131: the byte of a group at each depth, first pixel most significant. -/
def Obligations.PackedByteLayouts : Prop :=
  ∀ s : State, s.pacc = 0 → s.pcnt = 0 →
    (bpp s.ctrl = 2 → ∀ i0 i1 i2 i3 : Index, i0.toNat < 4 → i1.toNat < 4 → i2.toNat < 4 → i3.toNat < 4 →
      ∃ b : Byte, pack i3 (pack i2 (pack i1 (pack i0 s))) = { s with pixout := s.pixout ++ [b] } ∧
        b.toNat = i0.toNat * 64 + i1.toNat * 16 + i2.toNat * 4 + i3.toNat) ∧
    (bpp s.ctrl = 1 → ∀ i0 i1 i2 i3 i4 i5 i6 i7 : Index, i0.toNat < 2 → i1.toNat < 2 → i2.toNat < 2 →
      i3.toNat < 2 → i4.toNat < 2 → i5.toNat < 2 → i6.toNat < 2 → i7.toNat < 2 →
      ∃ b : Byte, pack i7 (pack i6 (pack i5 (pack i4 (pack i3 (pack i2 (pack i1 (pack i0 s))))))) =
          { s with pixout := s.pixout ++ [b] } ∧
        b.toNat = i0.toNat * 128 + i1.toNat * 64 + i2.toNat * 32 + i3.toNat * 16 + i4.toNat * 8 + i5.toNat * 4 +
          i6.toNat * 2 + i7.toNat) ∧
    (bpp s.ctrl = 4 → ∀ i0 i1 : Index,
      ∃ b : Byte, pack i1 (pack i0 s) = { s with pixout := s.pixout ++ [b] } ∧ b.toNat = i0.toNat * 16 + i1.toNat)

/-- R132: splitting the byte of a group into fields of `b` bits, most significant first, gives the indices. -/
def Obligations.PackingRoundTrip : Prop :=
  ∀ (s : State) (group : List Index), s.pacc = 0 → s.pcnt = 0 → reservedConfig s.ctrl = false →
    group.length = ppb s.ctrl → (∀ i ∈ group, i.toNat < 2 ^ bpp s.ctrl) →
    ∃ b : Byte, group.foldl (fun t i => pack i t) s = { s with pixout := s.pixout ++ [b] } ∧
      ∀ k : Nat, ∀ h : k < group.length,
        b.toNat / 2 ^ (bpp s.ctrl * (ppb s.ctrl - 1 - k)) % 2 ^ bpp s.ctrl = (group[k]).toNat

/-- The frame of a grey or raw pixel that completes: only the position, the packer, `PIXOUT`, and at the
frame end `STATE` and `DONE` change; no palette byte, no flag else, no register (R111, R133, R143). -/
def Obligations.GreyAndRawPixelFrame : Prop :=
  ∀ (s t : State), s.runState = .run →
    ((∃ i, s.modeNum ≤ 3 ∧ exec (.pxg i) s = .next t) ∨
      (∃ idx, s.modeNum = 6 ∧ idx.toNat < 2 ^ bpp s.ctrl ∧ exec (.pxi idx) s = .next t)) →
    t = { s with xpos := t.xpos, ypos := t.ypos, pacc := t.pacc, pcnt := t.pcnt, pixout := t.pixout,
                 runState := t.runState, done := t.done }

/-- The frame of a colour pixel that completes: beside what every pixel changes, only the accumulator, the
events' flags, counters and records, and `PALOUT`; the catalog, the configuration, `CATLOCK`, `TRAIL`,
`FCODE` and `RSP` stay (R112, R113, R115, R116). -/
def Obligations.ColourPixelFrame : Prop :=
  ∀ (s t : State) (rgb : Rgb), s.runState = .run → s.modeNum = 4 ∨ s.modeNum = 5 → exec (.pxc rgb) s = .next t →
    t = { s with xpos := t.xpos, ypos := t.ypos, pacc := t.pacc, pcnt := t.pcnt, pixout := t.pixout,
                 runState := t.runState, done := t.done, ps := t.ps, palcnt := t.palcnt, palout := t.palout,
                 diag := t.diag, ovfl := t.ovfl, ovf := t.ovf, unr := t.unr, ovfcnt := t.ovfcnt,
                 unrcnt := t.unrcnt }

/-! ### The palette emitter (46_palette_emitter.md) -/

/-- R140: exactly four bytes; byte `k` is slot `k`'s hardware index, or 0 for an unpopulated slot. -/
def Obligations.EmitterAppendsFourBytes : Prop :=
  ∀ s : State, ∃ bs : List Byte, emitPalette s = { s with palout := s.palout ++ bs } ∧ bs.length = 4 ∧
    ∀ k : Fin 4, bs[k.val]? = some (if k.val < s.palcnt.val then (s.ps[k]).hw else 0)

/-- R143: in `DIR1`, `DIR2`, `DIR4`, `DITH` and `RAW` no step of a frame appends a palette byte. -/
def Obligations.NoPaletteBytesOutsideAdaptiveModes : Prop :=
  ∀ s t : State, s.modeNum ≠ 4 → s.modeNum ≠ 5 → hardResetNext s = false → step s = .next t → t.palout = s.palout

/-! ### Faults (60_exceptions.md) -/

/-- R160 with the codes of R151: what taking a fault does, and that it does nothing else. -/
def Obligations.FaultEntryRecordsTheCause : Prop :=
  ∀ (c : Cause) (w : Word) (s : State), ∃ code : Byte,
    raise c w s = { s with diag := s.diag ++ [⟨code, s.ypos, s.xpos, w⟩], fcode := code, runState := .fault } ∧
    (c = .malformedInput → code = 1) ∧ (c = .missingReference → code = 2) ∧ (c = .inputSizeMismatch → code = 3) ∧
    (c = .illegalCommand → code = 4) ∧ (c = .protocol → code = 5) ∧ (c = .badConfig → code = 6) ∧
    (c = .catalogFull → code = 7)

/-- R160, R154: a command that enters `FAULT` has no other effect than one record, `FCODE` and `STATE`; the
cause is never `INPUT_SIZE_MISMATCH`. -/
def Obligations.FaultsArePrecise : Prop :=
  ∀ (i : Instr) (s t : State), s.runState ≠ .fault → exec i s = .next t → t.runState = .fault →
    ∃ c : Byte, c ∈ ([0x01, 0x02, 0x04, 0x05, 0x06, 0x07] : List Byte) ∧
      t = { s with diag := s.diag ++ [⟨c, s.ypos, s.xpos, encode i⟩], fcode := c, runState := .fault }

/-- R162: in `FAULT` every command but `SRST` and `RD` is dropped. -/
def Obligations.FaultDropsCommands : Prop :=
  ∀ (i : Instr) (s : State), s.runState = .fault → i.WellFormed → i ≠ .srst → (∀ r, i ≠ .rd r) →
    exec i s = .next s

/-- R161: only `SRST` and the reset input leave `FAULT`, and until then `FCODE` and the position stay. -/
def Obligations.OnlyResetLeavesFault : Prop :=
  ∀ s t : State, s.runState = .fault → step s = .next t → resetNext s = false →
    t = { s with rsp := t.rsp, host := s.host.tail }

/-- R158: one command appends at most one diagnostic record. -/
def Obligations.AtMostOneRecordPerCommand : Prop :=
  ∀ (i : Instr) (s t : State), exec i s = .next t → ∃ l : List DiagRec, t.diag = s.diag ++ l ∧ l.length ≤ 1

/-- R11, R150: how a command changes `STATE`: to `RUN` only by `START` from `IDLE`; from `RUN` to `IDLE` only by
`SRST` or by a pixel that completes the frame. -/
def Obligations.RunStateTransitions : Prop :=
  ∀ (i : Instr) (s t : State), exec i s = .next t →
    (t.runState = .run → s.runState = .run ∨ (s.runState = .idle ∧ i = .start)) ∧
    (s.runState = .run → t.runState = .idle →
      i = .srst ∨ (acceptedPixel s.ctrl i = true ∧ t.done = true ∧ t.xpos = 0 ∧ t.ypos = s.height))

/-- R164: the 72-bit element of a record. -/
def Obligations.DiagElementLayout : Prop :=
  ∀ r : DiagRec, (diagBits r).extractLsb' 64 8 = r.code ∧ (diagBits r).extractLsb' 48 16 = r.y ∧
    (diagBits r).extractLsb' 32 16 = r.x ∧ (diagBits r).extractLsb' 0 32 = r.info

/-! ### Invariants of the whole machine -/

/-- The reset state meets the invariant. -/
def Obligations.ResetMeetsTheInvariant : Prop := State.reset.Inv

/-- Every step keeps the invariant: R13, R20, R26, R27, R29, R92, R141 and the rest of `State.Inv`. -/
def Obligations.StepKeepsTheInvariant : Prop :=
  ∀ s t : State, s.Inv → step s = .next t → t.Inv

/-- R25, R27, I28: the contents of unpopulated slots and invalid entries never reach anything: two states
that differ there at most go on to two such states, with equal streams. -/
def Obligations.DeadContentsAreNeverRead : Prop :=
  ∀ s s' t : State, SameButDead s s' → step s = .next t → ∃ t', step s' = .next t' ∧ SameButDead t t'
end

