-- ==== Sys2Proof/Laws/State.lean ====
section
/-! SUPPORT. The fields of the named updates, one lemma per field per update, true by unfolding the
record update; no later proof needs to unfold them. -/

namespace Sys2Proof.Machine

/-! ### `markTrail` -/

@[simp] theorem markTrail_runState (s : State) : (markTrail s).runState = s.runState := rfl
@[simp] theorem markTrail_xpos (s : State) : (markTrail s).xpos = s.xpos := rfl
@[simp] theorem markTrail_ypos (s : State) : (markTrail s).ypos = s.ypos := rfl
@[simp] theorem markTrail_ctrl (s : State) : (markTrail s).ctrl = s.ctrl := rfl
@[simp] theorem markTrail_width (s : State) : (markTrail s).width = s.width := rfl
@[simp] theorem markTrail_height (s : State) : (markTrail s).height = s.height := rfl
@[simp] theorem markTrail_catval (s : State) : (markTrail s).catval = s.catval := rfl
@[simp] theorem markTrail_done (s : State) : (markTrail s).done = s.done := rfl
@[simp] theorem markTrail_catlock (s : State) : (markTrail s).catlock = s.catlock := rfl
@[simp] theorem markTrail_ovfl (s : State) : (markTrail s).ovfl = s.ovfl := rfl
@[simp] theorem markTrail_ovf (s : State) : (markTrail s).ovf = s.ovf := rfl
@[simp] theorem markTrail_unr (s : State) : (markTrail s).unr = s.unr := rfl
@[simp] theorem markTrail_trail (s : State) : (markTrail s).trail = true := rfl
@[simp] theorem markTrail_fcode (s : State) : (markTrail s).fcode = s.fcode := rfl
@[simp] theorem markTrail_ovfcnt (s : State) : (markTrail s).ovfcnt = s.ovfcnt := rfl
@[simp] theorem markTrail_unrcnt (s : State) : (markTrail s).unrcnt = s.unrcnt := rfl
@[simp] theorem markTrail_ps (s : State) : (markTrail s).ps = s.ps := rfl
@[simp] theorem markTrail_palcnt (s : State) : (markTrail s).palcnt = s.palcnt := rfl
@[simp] theorem markTrail_cat (s : State) : (markTrail s).cat = s.cat := rfl
@[simp] theorem markTrail_catptr (s : State) : (markTrail s).catptr = s.catptr := rfl
@[simp] theorem markTrail_pacc (s : State) : (markTrail s).pacc = s.pacc := rfl
@[simp] theorem markTrail_pcnt (s : State) : (markTrail s).pcnt = s.pcnt := rfl
@[simp] theorem markTrail_pixout (s : State) : (markTrail s).pixout = s.pixout := rfl
@[simp] theorem markTrail_palout (s : State) : (markTrail s).palout = s.palout := rfl
@[simp] theorem markTrail_diag (s : State) : (markTrail s).diag = s.diag := rfl
@[simp] theorem markTrail_rsp (s : State) : (markTrail s).rsp = s.rsp := rfl
@[simp] theorem markTrail_host (s : State) : (markTrail s).host = s.host := rfl

/-! ### `markUnreachable` -/

@[simp] theorem markUnreachable_runState (s : State) : (markUnreachable s).runState = s.runState := rfl
@[simp] theorem markUnreachable_xpos (s : State) : (markUnreachable s).xpos = s.xpos := rfl
@[simp] theorem markUnreachable_ypos (s : State) : (markUnreachable s).ypos = s.ypos := rfl
@[simp] theorem markUnreachable_ctrl (s : State) : (markUnreachable s).ctrl = s.ctrl := rfl
@[simp] theorem markUnreachable_width (s : State) : (markUnreachable s).width = s.width := rfl
@[simp] theorem markUnreachable_height (s : State) : (markUnreachable s).height = s.height := rfl
@[simp] theorem markUnreachable_catval (s : State) : (markUnreachable s).catval = s.catval := rfl
@[simp] theorem markUnreachable_done (s : State) : (markUnreachable s).done = s.done := rfl
@[simp] theorem markUnreachable_catlock (s : State) : (markUnreachable s).catlock = s.catlock := rfl
@[simp] theorem markUnreachable_ovfl (s : State) : (markUnreachable s).ovfl = s.ovfl := rfl
@[simp] theorem markUnreachable_ovf (s : State) : (markUnreachable s).ovf = s.ovf := rfl
@[simp] theorem markUnreachable_unr (s : State) : (markUnreachable s).unr = true := rfl
@[simp] theorem markUnreachable_trail (s : State) : (markUnreachable s).trail = s.trail := rfl
@[simp] theorem markUnreachable_fcode (s : State) : (markUnreachable s).fcode = s.fcode := rfl
@[simp] theorem markUnreachable_ovfcnt (s : State) : (markUnreachable s).ovfcnt = s.ovfcnt := rfl
@[simp] theorem markUnreachable_unrcnt (s : State) : (markUnreachable s).unrcnt = satIncr s.unrcnt := rfl
@[simp] theorem markUnreachable_ps (s : State) : (markUnreachable s).ps = s.ps := rfl
@[simp] theorem markUnreachable_palcnt (s : State) : (markUnreachable s).palcnt = s.palcnt := rfl
@[simp] theorem markUnreachable_cat (s : State) : (markUnreachable s).cat = s.cat := rfl
@[simp] theorem markUnreachable_catptr (s : State) : (markUnreachable s).catptr = s.catptr := rfl
@[simp] theorem markUnreachable_pacc (s : State) : (markUnreachable s).pacc = s.pacc := rfl
@[simp] theorem markUnreachable_pcnt (s : State) : (markUnreachable s).pcnt = s.pcnt := rfl
@[simp] theorem markUnreachable_pixout (s : State) : (markUnreachable s).pixout = s.pixout := rfl
@[simp] theorem markUnreachable_palout (s : State) : (markUnreachable s).palout = s.palout := rfl
@[simp] theorem markUnreachable_diag (s : State) : (markUnreachable s).diag = s.diag := rfl
@[simp] theorem markUnreachable_rsp (s : State) : (markUnreachable s).rsp = s.rsp := rfl
@[simp] theorem markUnreachable_host (s : State) : (markUnreachable s).host = s.host := rfl

/-! ### `markOverflow` -/

@[simp] theorem markOverflow_runState (s : State) : (markOverflow s).runState = s.runState := rfl
@[simp] theorem markOverflow_xpos (s : State) : (markOverflow s).xpos = s.xpos := rfl
@[simp] theorem markOverflow_ypos (s : State) : (markOverflow s).ypos = s.ypos := rfl
@[simp] theorem markOverflow_ctrl (s : State) : (markOverflow s).ctrl = s.ctrl := rfl
@[simp] theorem markOverflow_width (s : State) : (markOverflow s).width = s.width := rfl
@[simp] theorem markOverflow_height (s : State) : (markOverflow s).height = s.height := rfl
@[simp] theorem markOverflow_catval (s : State) : (markOverflow s).catval = s.catval := rfl
@[simp] theorem markOverflow_done (s : State) : (markOverflow s).done = s.done := rfl
@[simp] theorem markOverflow_catlock (s : State) : (markOverflow s).catlock = s.catlock := rfl
@[simp] theorem markOverflow_ovfl (s : State) : (markOverflow s).ovfl = true := rfl
@[simp] theorem markOverflow_ovf (s : State) : (markOverflow s).ovf = true := rfl
@[simp] theorem markOverflow_unr (s : State) : (markOverflow s).unr = s.unr := rfl
@[simp] theorem markOverflow_trail (s : State) : (markOverflow s).trail = s.trail := rfl
@[simp] theorem markOverflow_fcode (s : State) : (markOverflow s).fcode = s.fcode := rfl
@[simp] theorem markOverflow_ovfcnt (s : State) : (markOverflow s).ovfcnt = satIncr s.ovfcnt := rfl
@[simp] theorem markOverflow_unrcnt (s : State) : (markOverflow s).unrcnt = s.unrcnt := rfl
@[simp] theorem markOverflow_ps (s : State) : (markOverflow s).ps = s.ps := rfl
@[simp] theorem markOverflow_palcnt (s : State) : (markOverflow s).palcnt = s.palcnt := rfl
@[simp] theorem markOverflow_cat (s : State) : (markOverflow s).cat = s.cat := rfl
@[simp] theorem markOverflow_catptr (s : State) : (markOverflow s).catptr = s.catptr := rfl
@[simp] theorem markOverflow_pacc (s : State) : (markOverflow s).pacc = s.pacc := rfl
@[simp] theorem markOverflow_pcnt (s : State) : (markOverflow s).pcnt = s.pcnt := rfl
@[simp] theorem markOverflow_pixout (s : State) : (markOverflow s).pixout = s.pixout := rfl
@[simp] theorem markOverflow_palout (s : State) : (markOverflow s).palout = s.palout := rfl
@[simp] theorem markOverflow_diag (s : State) : (markOverflow s).diag = s.diag := rfl
@[simp] theorem markOverflow_rsp (s : State) : (markOverflow s).rsp = s.rsp := rfl
@[simp] theorem markOverflow_host (s : State) : (markOverflow s).host = s.host := rfl

/-! ### `clearFrameFlags` -/

@[simp] theorem clearFrameFlags_runState (s : State) : (clearFrameFlags s).runState = s.runState := rfl
@[simp] theorem clearFrameFlags_xpos (s : State) : (clearFrameFlags s).xpos = s.xpos := rfl
@[simp] theorem clearFrameFlags_ypos (s : State) : (clearFrameFlags s).ypos = s.ypos := rfl
@[simp] theorem clearFrameFlags_ctrl (s : State) : (clearFrameFlags s).ctrl = s.ctrl := rfl
@[simp] theorem clearFrameFlags_width (s : State) : (clearFrameFlags s).width = s.width := rfl
@[simp] theorem clearFrameFlags_height (s : State) : (clearFrameFlags s).height = s.height := rfl
@[simp] theorem clearFrameFlags_catval (s : State) : (clearFrameFlags s).catval = s.catval := rfl
@[simp] theorem clearFrameFlags_done (s : State) : (clearFrameFlags s).done = false := rfl
@[simp] theorem clearFrameFlags_catlock (s : State) : (clearFrameFlags s).catlock = s.catlock := rfl
@[simp] theorem clearFrameFlags_ovfl (s : State) : (clearFrameFlags s).ovfl = false := rfl
@[simp] theorem clearFrameFlags_ovf (s : State) : (clearFrameFlags s).ovf = false := rfl
@[simp] theorem clearFrameFlags_unr (s : State) : (clearFrameFlags s).unr = false := rfl
@[simp] theorem clearFrameFlags_trail (s : State) : (clearFrameFlags s).trail = false := rfl
@[simp] theorem clearFrameFlags_fcode (s : State) : (clearFrameFlags s).fcode = s.fcode := rfl
@[simp] theorem clearFrameFlags_ovfcnt (s : State) : (clearFrameFlags s).ovfcnt = 0 := rfl
@[simp] theorem clearFrameFlags_unrcnt (s : State) : (clearFrameFlags s).unrcnt = 0 := rfl
@[simp] theorem clearFrameFlags_ps (s : State) : (clearFrameFlags s).ps = s.ps := rfl
@[simp] theorem clearFrameFlags_palcnt (s : State) : (clearFrameFlags s).palcnt = s.palcnt := rfl
@[simp] theorem clearFrameFlags_cat (s : State) : (clearFrameFlags s).cat = s.cat := rfl
@[simp] theorem clearFrameFlags_catptr (s : State) : (clearFrameFlags s).catptr = s.catptr := rfl
@[simp] theorem clearFrameFlags_pacc (s : State) : (clearFrameFlags s).pacc = s.pacc := rfl
@[simp] theorem clearFrameFlags_pcnt (s : State) : (clearFrameFlags s).pcnt = s.pcnt := rfl
@[simp] theorem clearFrameFlags_pixout (s : State) : (clearFrameFlags s).pixout = s.pixout := rfl
@[simp] theorem clearFrameFlags_palout (s : State) : (clearFrameFlags s).palout = s.palout := rfl
@[simp] theorem clearFrameFlags_diag (s : State) : (clearFrameFlags s).diag = s.diag := rfl
@[simp] theorem clearFrameFlags_rsp (s : State) : (clearFrameFlags s).rsp = s.rsp := rfl
@[simp] theorem clearFrameFlags_host (s : State) : (clearFrameFlags s).host = s.host := rfl

/-! ### `beginFrame` -/

@[simp] theorem beginFrame_runState (s : State) : (beginFrame s).runState = .run := rfl
@[simp] theorem beginFrame_xpos (s : State) : (beginFrame s).xpos = 0 := rfl
@[simp] theorem beginFrame_ypos (s : State) : (beginFrame s).ypos = 0 := rfl
@[simp] theorem beginFrame_ctrl (s : State) : (beginFrame s).ctrl = s.ctrl := rfl
@[simp] theorem beginFrame_width (s : State) : (beginFrame s).width = s.width := rfl
@[simp] theorem beginFrame_height (s : State) : (beginFrame s).height = s.height := rfl
@[simp] theorem beginFrame_catval (s : State) : (beginFrame s).catval = s.catval := rfl
@[simp] theorem beginFrame_done (s : State) : (beginFrame s).done = false := rfl
@[simp] theorem beginFrame_catlock (s : State) : (beginFrame s).catlock = s.catlock := rfl
@[simp] theorem beginFrame_ovfl (s : State) : (beginFrame s).ovfl = false := rfl
@[simp] theorem beginFrame_ovf (s : State) : (beginFrame s).ovf = false := rfl
@[simp] theorem beginFrame_unr (s : State) : (beginFrame s).unr = false := rfl
@[simp] theorem beginFrame_trail (s : State) : (beginFrame s).trail = false := rfl
@[simp] theorem beginFrame_fcode (s : State) : (beginFrame s).fcode = s.fcode := rfl
@[simp] theorem beginFrame_ovfcnt (s : State) : (beginFrame s).ovfcnt = 0 := rfl
@[simp] theorem beginFrame_unrcnt (s : State) : (beginFrame s).unrcnt = 0 := rfl
@[simp] theorem beginFrame_ps (s : State) : (beginFrame s).ps = s.ps := rfl
@[simp] theorem beginFrame_palcnt (s : State) : (beginFrame s).palcnt = 0 := rfl
@[simp] theorem beginFrame_cat (s : State) : (beginFrame s).cat = s.cat := rfl
@[simp] theorem beginFrame_catptr (s : State) : (beginFrame s).catptr = s.catptr := rfl
@[simp] theorem beginFrame_pacc (s : State) : (beginFrame s).pacc = 0 := rfl
@[simp] theorem beginFrame_pcnt (s : State) : (beginFrame s).pcnt = 0 := rfl
@[simp] theorem beginFrame_pixout (s : State) : (beginFrame s).pixout = s.pixout := rfl
@[simp] theorem beginFrame_palout (s : State) : (beginFrame s).palout = s.palout := rfl
@[simp] theorem beginFrame_diag (s : State) : (beginFrame s).diag = s.diag := rfl
@[simp] theorem beginFrame_rsp (s : State) : (beginFrame s).rsp = s.rsp := rfl
@[simp] theorem beginFrame_host (s : State) : (beginFrame s).host = s.host := rfl

/-! ### `appendDiag` -/

@[simp] theorem appendDiag_runState (k : Byte) (w : Word) (s : State) : (appendDiag k w s).runState = s.runState := rfl
@[simp] theorem appendDiag_xpos (k : Byte) (w : Word) (s : State) : (appendDiag k w s).xpos = s.xpos := rfl
@[simp] theorem appendDiag_ypos (k : Byte) (w : Word) (s : State) : (appendDiag k w s).ypos = s.ypos := rfl
@[simp] theorem appendDiag_ctrl (k : Byte) (w : Word) (s : State) : (appendDiag k w s).ctrl = s.ctrl := rfl
@[simp] theorem appendDiag_width (k : Byte) (w : Word) (s : State) : (appendDiag k w s).width = s.width := rfl
@[simp] theorem appendDiag_height (k : Byte) (w : Word) (s : State) : (appendDiag k w s).height = s.height := rfl
@[simp] theorem appendDiag_catval (k : Byte) (w : Word) (s : State) : (appendDiag k w s).catval = s.catval := rfl
@[simp] theorem appendDiag_done (k : Byte) (w : Word) (s : State) : (appendDiag k w s).done = s.done := rfl
@[simp] theorem appendDiag_catlock (k : Byte) (w : Word) (s : State) : (appendDiag k w s).catlock = s.catlock := rfl
@[simp] theorem appendDiag_ovfl (k : Byte) (w : Word) (s : State) : (appendDiag k w s).ovfl = s.ovfl := rfl
@[simp] theorem appendDiag_ovf (k : Byte) (w : Word) (s : State) : (appendDiag k w s).ovf = s.ovf := rfl
@[simp] theorem appendDiag_unr (k : Byte) (w : Word) (s : State) : (appendDiag k w s).unr = s.unr := rfl
@[simp] theorem appendDiag_trail (k : Byte) (w : Word) (s : State) : (appendDiag k w s).trail = s.trail := rfl
@[simp] theorem appendDiag_fcode (k : Byte) (w : Word) (s : State) : (appendDiag k w s).fcode = s.fcode := rfl
@[simp] theorem appendDiag_ovfcnt (k : Byte) (w : Word) (s : State) : (appendDiag k w s).ovfcnt = s.ovfcnt := rfl
@[simp] theorem appendDiag_unrcnt (k : Byte) (w : Word) (s : State) : (appendDiag k w s).unrcnt = s.unrcnt := rfl
@[simp] theorem appendDiag_ps (k : Byte) (w : Word) (s : State) : (appendDiag k w s).ps = s.ps := rfl
@[simp] theorem appendDiag_palcnt (k : Byte) (w : Word) (s : State) : (appendDiag k w s).palcnt = s.palcnt := rfl
@[simp] theorem appendDiag_cat (k : Byte) (w : Word) (s : State) : (appendDiag k w s).cat = s.cat := rfl
@[simp] theorem appendDiag_catptr (k : Byte) (w : Word) (s : State) : (appendDiag k w s).catptr = s.catptr := rfl
@[simp] theorem appendDiag_pacc (k : Byte) (w : Word) (s : State) : (appendDiag k w s).pacc = s.pacc := rfl
@[simp] theorem appendDiag_pcnt (k : Byte) (w : Word) (s : State) : (appendDiag k w s).pcnt = s.pcnt := rfl
@[simp] theorem appendDiag_pixout (k : Byte) (w : Word) (s : State) : (appendDiag k w s).pixout = s.pixout := rfl
@[simp] theorem appendDiag_palout (k : Byte) (w : Word) (s : State) : (appendDiag k w s).palout = s.palout := rfl
@[simp] theorem appendDiag_diag (k : Byte) (w : Word) (s : State) : (appendDiag k w s).diag = s.diag ++ [⟨k, s.ypos, s.xpos, w⟩] := rfl
@[simp] theorem appendDiag_rsp (k : Byte) (w : Word) (s : State) : (appendDiag k w s).rsp = s.rsp := rfl
@[simp] theorem appendDiag_host (k : Byte) (w : Word) (s : State) : (appendDiag k w s).host = s.host := rfl

/-! ### `raise` -/

@[simp] theorem raise_runState (c : Cause) (w : Word) (s : State) : (raise c w s).runState = .fault := rfl
@[simp] theorem raise_xpos (c : Cause) (w : Word) (s : State) : (raise c w s).xpos = s.xpos := rfl
@[simp] theorem raise_ypos (c : Cause) (w : Word) (s : State) : (raise c w s).ypos = s.ypos := rfl
@[simp] theorem raise_ctrl (c : Cause) (w : Word) (s : State) : (raise c w s).ctrl = s.ctrl := rfl
@[simp] theorem raise_width (c : Cause) (w : Word) (s : State) : (raise c w s).width = s.width := rfl
@[simp] theorem raise_height (c : Cause) (w : Word) (s : State) : (raise c w s).height = s.height := rfl
@[simp] theorem raise_catval (c : Cause) (w : Word) (s : State) : (raise c w s).catval = s.catval := rfl
@[simp] theorem raise_done (c : Cause) (w : Word) (s : State) : (raise c w s).done = s.done := rfl
@[simp] theorem raise_catlock (c : Cause) (w : Word) (s : State) : (raise c w s).catlock = s.catlock := rfl
@[simp] theorem raise_ovfl (c : Cause) (w : Word) (s : State) : (raise c w s).ovfl = s.ovfl := rfl
@[simp] theorem raise_ovf (c : Cause) (w : Word) (s : State) : (raise c w s).ovf = s.ovf := rfl
@[simp] theorem raise_unr (c : Cause) (w : Word) (s : State) : (raise c w s).unr = s.unr := rfl
@[simp] theorem raise_trail (c : Cause) (w : Word) (s : State) : (raise c w s).trail = s.trail := rfl
@[simp] theorem raise_fcode (c : Cause) (w : Word) (s : State) : (raise c w s).fcode = causeCode c := rfl
@[simp] theorem raise_ovfcnt (c : Cause) (w : Word) (s : State) : (raise c w s).ovfcnt = s.ovfcnt := rfl
@[simp] theorem raise_unrcnt (c : Cause) (w : Word) (s : State) : (raise c w s).unrcnt = s.unrcnt := rfl
@[simp] theorem raise_ps (c : Cause) (w : Word) (s : State) : (raise c w s).ps = s.ps := rfl
@[simp] theorem raise_palcnt (c : Cause) (w : Word) (s : State) : (raise c w s).palcnt = s.palcnt := rfl
@[simp] theorem raise_cat (c : Cause) (w : Word) (s : State) : (raise c w s).cat = s.cat := rfl
@[simp] theorem raise_catptr (c : Cause) (w : Word) (s : State) : (raise c w s).catptr = s.catptr := rfl
@[simp] theorem raise_pacc (c : Cause) (w : Word) (s : State) : (raise c w s).pacc = s.pacc := rfl
@[simp] theorem raise_pcnt (c : Cause) (w : Word) (s : State) : (raise c w s).pcnt = s.pcnt := rfl
@[simp] theorem raise_pixout (c : Cause) (w : Word) (s : State) : (raise c w s).pixout = s.pixout := rfl
@[simp] theorem raise_palout (c : Cause) (w : Word) (s : State) : (raise c w s).palout = s.palout := rfl
@[simp] theorem raise_diag (c : Cause) (w : Word) (s : State) : (raise c w s).diag = s.diag ++ [⟨causeCode c, s.ypos, s.xpos, w⟩] := rfl
@[simp] theorem raise_rsp (c : Cause) (w : Word) (s : State) : (raise c w s).rsp = s.rsp := rfl
@[simp] theorem raise_host (c : Cause) (w : Word) (s : State) : (raise c w s).host = s.host := rfl

/-! ### `appendEvent` -/

@[simp] theorem appendEvent_runState (e : Event) (rgb : Rgb) (s : State) : (appendEvent e rgb s).runState = s.runState := rfl
@[simp] theorem appendEvent_xpos (e : Event) (rgb : Rgb) (s : State) : (appendEvent e rgb s).xpos = s.xpos := rfl
@[simp] theorem appendEvent_ypos (e : Event) (rgb : Rgb) (s : State) : (appendEvent e rgb s).ypos = s.ypos := rfl
@[simp] theorem appendEvent_ctrl (e : Event) (rgb : Rgb) (s : State) : (appendEvent e rgb s).ctrl = s.ctrl := rfl
@[simp] theorem appendEvent_width (e : Event) (rgb : Rgb) (s : State) : (appendEvent e rgb s).width = s.width := rfl
@[simp] theorem appendEvent_height (e : Event) (rgb : Rgb) (s : State) : (appendEvent e rgb s).height = s.height := rfl
@[simp] theorem appendEvent_catval (e : Event) (rgb : Rgb) (s : State) : (appendEvent e rgb s).catval = s.catval := rfl
@[simp] theorem appendEvent_done (e : Event) (rgb : Rgb) (s : State) : (appendEvent e rgb s).done = s.done := rfl
@[simp] theorem appendEvent_catlock (e : Event) (rgb : Rgb) (s : State) : (appendEvent e rgb s).catlock = s.catlock := rfl
@[simp] theorem appendEvent_ovfl (e : Event) (rgb : Rgb) (s : State) : (appendEvent e rgb s).ovfl = s.ovfl := rfl
@[simp] theorem appendEvent_ovf (e : Event) (rgb : Rgb) (s : State) : (appendEvent e rgb s).ovf = s.ovf := rfl
@[simp] theorem appendEvent_unr (e : Event) (rgb : Rgb) (s : State) : (appendEvent e rgb s).unr = s.unr := rfl
@[simp] theorem appendEvent_trail (e : Event) (rgb : Rgb) (s : State) : (appendEvent e rgb s).trail = s.trail := rfl
@[simp] theorem appendEvent_fcode (e : Event) (rgb : Rgb) (s : State) : (appendEvent e rgb s).fcode = s.fcode := rfl
@[simp] theorem appendEvent_ovfcnt (e : Event) (rgb : Rgb) (s : State) : (appendEvent e rgb s).ovfcnt = s.ovfcnt := rfl
@[simp] theorem appendEvent_unrcnt (e : Event) (rgb : Rgb) (s : State) : (appendEvent e rgb s).unrcnt = s.unrcnt := rfl
@[simp] theorem appendEvent_ps (e : Event) (rgb : Rgb) (s : State) : (appendEvent e rgb s).ps = s.ps := rfl
@[simp] theorem appendEvent_palcnt (e : Event) (rgb : Rgb) (s : State) : (appendEvent e rgb s).palcnt = s.palcnt := rfl
@[simp] theorem appendEvent_cat (e : Event) (rgb : Rgb) (s : State) : (appendEvent e rgb s).cat = s.cat := rfl
@[simp] theorem appendEvent_catptr (e : Event) (rgb : Rgb) (s : State) : (appendEvent e rgb s).catptr = s.catptr := rfl
@[simp] theorem appendEvent_pacc (e : Event) (rgb : Rgb) (s : State) : (appendEvent e rgb s).pacc = s.pacc := rfl
@[simp] theorem appendEvent_pcnt (e : Event) (rgb : Rgb) (s : State) : (appendEvent e rgb s).pcnt = s.pcnt := rfl
@[simp] theorem appendEvent_pixout (e : Event) (rgb : Rgb) (s : State) : (appendEvent e rgb s).pixout = s.pixout := rfl
@[simp] theorem appendEvent_palout (e : Event) (rgb : Rgb) (s : State) : (appendEvent e rgb s).palout = s.palout := rfl
@[simp] theorem appendEvent_diag (e : Event) (rgb : Rgb) (s : State) : (appendEvent e rgb s).diag = s.diag ++ [⟨eventCode e, s.ypos, s.xpos, rgb.setWidth 32⟩] := rfl
@[simp] theorem appendEvent_rsp (e : Event) (rgb : Rgb) (s : State) : (appendEvent e rgb s).rsp = s.rsp := rfl
@[simp] theorem appendEvent_host (e : Event) (rgb : Rgb) (s : State) : (appendEvent e rgb s).host = s.host := rfl

/-! ### `reportUnreachable` -/

@[simp] theorem reportUnreachable_runState (rgb : Rgb) (s : State) : (reportUnreachable rgb s).runState = s.runState := rfl
@[simp] theorem reportUnreachable_xpos (rgb : Rgb) (s : State) : (reportUnreachable rgb s).xpos = s.xpos := rfl
@[simp] theorem reportUnreachable_ypos (rgb : Rgb) (s : State) : (reportUnreachable rgb s).ypos = s.ypos := rfl
@[simp] theorem reportUnreachable_ctrl (rgb : Rgb) (s : State) : (reportUnreachable rgb s).ctrl = s.ctrl := rfl
@[simp] theorem reportUnreachable_width (rgb : Rgb) (s : State) : (reportUnreachable rgb s).width = s.width := rfl
@[simp] theorem reportUnreachable_height (rgb : Rgb) (s : State) : (reportUnreachable rgb s).height = s.height := rfl
@[simp] theorem reportUnreachable_catval (rgb : Rgb) (s : State) : (reportUnreachable rgb s).catval = s.catval := rfl
@[simp] theorem reportUnreachable_done (rgb : Rgb) (s : State) : (reportUnreachable rgb s).done = s.done := rfl
@[simp] theorem reportUnreachable_catlock (rgb : Rgb) (s : State) : (reportUnreachable rgb s).catlock = s.catlock := rfl
@[simp] theorem reportUnreachable_ovfl (rgb : Rgb) (s : State) : (reportUnreachable rgb s).ovfl = s.ovfl := rfl
@[simp] theorem reportUnreachable_ovf (rgb : Rgb) (s : State) : (reportUnreachable rgb s).ovf = s.ovf := rfl
@[simp] theorem reportUnreachable_unr (rgb : Rgb) (s : State) : (reportUnreachable rgb s).unr = true := rfl
@[simp] theorem reportUnreachable_trail (rgb : Rgb) (s : State) : (reportUnreachable rgb s).trail = s.trail := rfl
@[simp] theorem reportUnreachable_fcode (rgb : Rgb) (s : State) : (reportUnreachable rgb s).fcode = s.fcode := rfl
@[simp] theorem reportUnreachable_ovfcnt (rgb : Rgb) (s : State) : (reportUnreachable rgb s).ovfcnt = s.ovfcnt := rfl
@[simp] theorem reportUnreachable_unrcnt (rgb : Rgb) (s : State) : (reportUnreachable rgb s).unrcnt = satIncr s.unrcnt := rfl
@[simp] theorem reportUnreachable_ps (rgb : Rgb) (s : State) : (reportUnreachable rgb s).ps = s.ps := rfl
@[simp] theorem reportUnreachable_palcnt (rgb : Rgb) (s : State) : (reportUnreachable rgb s).palcnt = s.palcnt := rfl
@[simp] theorem reportUnreachable_cat (rgb : Rgb) (s : State) : (reportUnreachable rgb s).cat = s.cat := rfl
@[simp] theorem reportUnreachable_catptr (rgb : Rgb) (s : State) : (reportUnreachable rgb s).catptr = s.catptr := rfl
@[simp] theorem reportUnreachable_pacc (rgb : Rgb) (s : State) : (reportUnreachable rgb s).pacc = s.pacc := rfl
@[simp] theorem reportUnreachable_pcnt (rgb : Rgb) (s : State) : (reportUnreachable rgb s).pcnt = s.pcnt := rfl
@[simp] theorem reportUnreachable_pixout (rgb : Rgb) (s : State) : (reportUnreachable rgb s).pixout = s.pixout := rfl
@[simp] theorem reportUnreachable_palout (rgb : Rgb) (s : State) : (reportUnreachable rgb s).palout = s.palout := rfl
@[simp] theorem reportUnreachable_diag (rgb : Rgb) (s : State) : (reportUnreachable rgb s).diag = s.diag ++ [⟨0x11, s.ypos, s.xpos, rgb.setWidth 32⟩] := rfl
@[simp] theorem reportUnreachable_rsp (rgb : Rgb) (s : State) : (reportUnreachable rgb s).rsp = s.rsp := rfl
@[simp] theorem reportUnreachable_host (rgb : Rgb) (s : State) : (reportUnreachable rgb s).host = s.host := rfl

/-! ### `clearCatalog` -/

@[simp] theorem clearCatalog_runState (s : State) : (clearCatalog s).runState = s.runState := rfl
@[simp] theorem clearCatalog_xpos (s : State) : (clearCatalog s).xpos = s.xpos := rfl
@[simp] theorem clearCatalog_ypos (s : State) : (clearCatalog s).ypos = s.ypos := rfl
@[simp] theorem clearCatalog_ctrl (s : State) : (clearCatalog s).ctrl = s.ctrl := rfl
@[simp] theorem clearCatalog_width (s : State) : (clearCatalog s).width = s.width := rfl
@[simp] theorem clearCatalog_height (s : State) : (clearCatalog s).height = s.height := rfl
@[simp] theorem clearCatalog_catval (s : State) : (clearCatalog s).catval = s.catval := rfl
@[simp] theorem clearCatalog_done (s : State) : (clearCatalog s).done = s.done := rfl
@[simp] theorem clearCatalog_catlock (s : State) : (clearCatalog s).catlock = s.catlock := rfl
@[simp] theorem clearCatalog_ovfl (s : State) : (clearCatalog s).ovfl = s.ovfl := rfl
@[simp] theorem clearCatalog_ovf (s : State) : (clearCatalog s).ovf = s.ovf := rfl
@[simp] theorem clearCatalog_unr (s : State) : (clearCatalog s).unr = s.unr := rfl
@[simp] theorem clearCatalog_trail (s : State) : (clearCatalog s).trail = s.trail := rfl
@[simp] theorem clearCatalog_fcode (s : State) : (clearCatalog s).fcode = s.fcode := rfl
@[simp] theorem clearCatalog_ovfcnt (s : State) : (clearCatalog s).ovfcnt = s.ovfcnt := rfl
@[simp] theorem clearCatalog_unrcnt (s : State) : (clearCatalog s).unrcnt = s.unrcnt := rfl
@[simp] theorem clearCatalog_ps (s : State) : (clearCatalog s).ps = s.ps := rfl
@[simp] theorem clearCatalog_palcnt (s : State) : (clearCatalog s).palcnt = s.palcnt := rfl
@[simp] theorem clearCatalog_cat (s : State) : (clearCatalog s).cat = s.cat.map (fun e => { e with valid := false }) := rfl
@[simp] theorem clearCatalog_catptr (s : State) : (clearCatalog s).catptr = 0 := rfl
@[simp] theorem clearCatalog_pacc (s : State) : (clearCatalog s).pacc = s.pacc := rfl
@[simp] theorem clearCatalog_pcnt (s : State) : (clearCatalog s).pcnt = s.pcnt := rfl
@[simp] theorem clearCatalog_pixout (s : State) : (clearCatalog s).pixout = s.pixout := rfl
@[simp] theorem clearCatalog_palout (s : State) : (clearCatalog s).palout = s.palout := rfl
@[simp] theorem clearCatalog_diag (s : State) : (clearCatalog s).diag = s.diag := rfl
@[simp] theorem clearCatalog_rsp (s : State) : (clearCatalog s).rsp = s.rsp := rfl
@[simp] theorem clearCatalog_host (s : State) : (clearCatalog s).host = s.host := rfl

/-! ### `emitPalette` -/

@[simp] theorem emitPalette_runState (s : State) : (emitPalette s).runState = s.runState := rfl
@[simp] theorem emitPalette_xpos (s : State) : (emitPalette s).xpos = s.xpos := rfl
@[simp] theorem emitPalette_ypos (s : State) : (emitPalette s).ypos = s.ypos := rfl
@[simp] theorem emitPalette_ctrl (s : State) : (emitPalette s).ctrl = s.ctrl := rfl
@[simp] theorem emitPalette_width (s : State) : (emitPalette s).width = s.width := rfl
@[simp] theorem emitPalette_height (s : State) : (emitPalette s).height = s.height := rfl
@[simp] theorem emitPalette_catval (s : State) : (emitPalette s).catval = s.catval := rfl
@[simp] theorem emitPalette_done (s : State) : (emitPalette s).done = s.done := rfl
@[simp] theorem emitPalette_catlock (s : State) : (emitPalette s).catlock = s.catlock := rfl
@[simp] theorem emitPalette_ovfl (s : State) : (emitPalette s).ovfl = s.ovfl := rfl
@[simp] theorem emitPalette_ovf (s : State) : (emitPalette s).ovf = s.ovf := rfl
@[simp] theorem emitPalette_unr (s : State) : (emitPalette s).unr = s.unr := rfl
@[simp] theorem emitPalette_trail (s : State) : (emitPalette s).trail = s.trail := rfl
@[simp] theorem emitPalette_fcode (s : State) : (emitPalette s).fcode = s.fcode := rfl
@[simp] theorem emitPalette_ovfcnt (s : State) : (emitPalette s).ovfcnt = s.ovfcnt := rfl
@[simp] theorem emitPalette_unrcnt (s : State) : (emitPalette s).unrcnt = s.unrcnt := rfl
@[simp] theorem emitPalette_ps (s : State) : (emitPalette s).ps = s.ps := rfl
@[simp] theorem emitPalette_palcnt (s : State) : (emitPalette s).palcnt = s.palcnt := rfl
@[simp] theorem emitPalette_cat (s : State) : (emitPalette s).cat = s.cat := rfl
@[simp] theorem emitPalette_catptr (s : State) : (emitPalette s).catptr = s.catptr := rfl
@[simp] theorem emitPalette_pacc (s : State) : (emitPalette s).pacc = s.pacc := rfl
@[simp] theorem emitPalette_pcnt (s : State) : (emitPalette s).pcnt = s.pcnt := rfl
@[simp] theorem emitPalette_pixout (s : State) : (emitPalette s).pixout = s.pixout := rfl
@[simp] theorem emitPalette_palout (s : State) : (emitPalette s).palout = s.palout ++ [paletteByte s 0, paletteByte s 1, paletteByte s 2, paletteByte s 3] := rfl
@[simp] theorem emitPalette_diag (s : State) : (emitPalette s).diag = s.diag := rfl
@[simp] theorem emitPalette_rsp (s : State) : (emitPalette s).rsp = s.rsp := rfl
@[simp] theorem emitPalette_host (s : State) : (emitPalette s).host = s.host := rfl

/-! ### `resetKeepingStreams` -/

@[simp] theorem resetKeepingStreams_runState (s : State) : (resetKeepingStreams s).runState = State.reset.runState := rfl
@[simp] theorem resetKeepingStreams_xpos (s : State) : (resetKeepingStreams s).xpos = State.reset.xpos := rfl
@[simp] theorem resetKeepingStreams_ypos (s : State) : (resetKeepingStreams s).ypos = State.reset.ypos := rfl
@[simp] theorem resetKeepingStreams_ctrl (s : State) : (resetKeepingStreams s).ctrl = State.reset.ctrl := rfl
@[simp] theorem resetKeepingStreams_width (s : State) : (resetKeepingStreams s).width = State.reset.width := rfl
@[simp] theorem resetKeepingStreams_height (s : State) : (resetKeepingStreams s).height = State.reset.height := rfl
@[simp] theorem resetKeepingStreams_catval (s : State) : (resetKeepingStreams s).catval = State.reset.catval := rfl
@[simp] theorem resetKeepingStreams_done (s : State) : (resetKeepingStreams s).done = State.reset.done := rfl
@[simp] theorem resetKeepingStreams_catlock (s : State) : (resetKeepingStreams s).catlock = State.reset.catlock := rfl
@[simp] theorem resetKeepingStreams_ovfl (s : State) : (resetKeepingStreams s).ovfl = State.reset.ovfl := rfl
@[simp] theorem resetKeepingStreams_ovf (s : State) : (resetKeepingStreams s).ovf = State.reset.ovf := rfl
@[simp] theorem resetKeepingStreams_unr (s : State) : (resetKeepingStreams s).unr = State.reset.unr := rfl
@[simp] theorem resetKeepingStreams_trail (s : State) : (resetKeepingStreams s).trail = State.reset.trail := rfl
@[simp] theorem resetKeepingStreams_fcode (s : State) : (resetKeepingStreams s).fcode = State.reset.fcode := rfl
@[simp] theorem resetKeepingStreams_ovfcnt (s : State) : (resetKeepingStreams s).ovfcnt = State.reset.ovfcnt := rfl
@[simp] theorem resetKeepingStreams_unrcnt (s : State) : (resetKeepingStreams s).unrcnt = State.reset.unrcnt := rfl
@[simp] theorem resetKeepingStreams_ps (s : State) : (resetKeepingStreams s).ps = State.reset.ps := rfl
@[simp] theorem resetKeepingStreams_palcnt (s : State) : (resetKeepingStreams s).palcnt = State.reset.palcnt := rfl
@[simp] theorem resetKeepingStreams_cat (s : State) : (resetKeepingStreams s).cat = State.reset.cat := rfl
@[simp] theorem resetKeepingStreams_catptr (s : State) : (resetKeepingStreams s).catptr = State.reset.catptr := rfl
@[simp] theorem resetKeepingStreams_pacc (s : State) : (resetKeepingStreams s).pacc = State.reset.pacc := rfl
@[simp] theorem resetKeepingStreams_pcnt (s : State) : (resetKeepingStreams s).pcnt = State.reset.pcnt := rfl
@[simp] theorem resetKeepingStreams_pixout (s : State) : (resetKeepingStreams s).pixout = s.pixout := rfl
@[simp] theorem resetKeepingStreams_palout (s : State) : (resetKeepingStreams s).palout = s.palout := rfl
@[simp] theorem resetKeepingStreams_diag (s : State) : (resetKeepingStreams s).diag = s.diag := rfl
@[simp] theorem resetKeepingStreams_rsp (s : State) : (resetKeepingStreams s).rsp = s.rsp := rfl
@[simp] theorem resetKeepingStreams_host (s : State) : (resetKeepingStreams s).host = s.host := rfl

/-! ### `hardReset` -/

@[simp] theorem hardReset_runState (s : State) : (hardReset s).runState = State.reset.runState := rfl
@[simp] theorem hardReset_xpos (s : State) : (hardReset s).xpos = State.reset.xpos := rfl
@[simp] theorem hardReset_ypos (s : State) : (hardReset s).ypos = State.reset.ypos := rfl
@[simp] theorem hardReset_ctrl (s : State) : (hardReset s).ctrl = State.reset.ctrl := rfl
@[simp] theorem hardReset_width (s : State) : (hardReset s).width = State.reset.width := rfl
@[simp] theorem hardReset_height (s : State) : (hardReset s).height = State.reset.height := rfl
@[simp] theorem hardReset_catval (s : State) : (hardReset s).catval = State.reset.catval := rfl
@[simp] theorem hardReset_done (s : State) : (hardReset s).done = State.reset.done := rfl
@[simp] theorem hardReset_catlock (s : State) : (hardReset s).catlock = State.reset.catlock := rfl
@[simp] theorem hardReset_ovfl (s : State) : (hardReset s).ovfl = State.reset.ovfl := rfl
@[simp] theorem hardReset_ovf (s : State) : (hardReset s).ovf = State.reset.ovf := rfl
@[simp] theorem hardReset_unr (s : State) : (hardReset s).unr = State.reset.unr := rfl
@[simp] theorem hardReset_trail (s : State) : (hardReset s).trail = State.reset.trail := rfl
@[simp] theorem hardReset_fcode (s : State) : (hardReset s).fcode = State.reset.fcode := rfl
@[simp] theorem hardReset_ovfcnt (s : State) : (hardReset s).ovfcnt = State.reset.ovfcnt := rfl
@[simp] theorem hardReset_unrcnt (s : State) : (hardReset s).unrcnt = State.reset.unrcnt := rfl
@[simp] theorem hardReset_ps (s : State) : (hardReset s).ps = State.reset.ps := rfl
@[simp] theorem hardReset_palcnt (s : State) : (hardReset s).palcnt = State.reset.palcnt := rfl
@[simp] theorem hardReset_cat (s : State) : (hardReset s).cat = State.reset.cat := rfl
@[simp] theorem hardReset_catptr (s : State) : (hardReset s).catptr = State.reset.catptr := rfl
@[simp] theorem hardReset_pacc (s : State) : (hardReset s).pacc = State.reset.pacc := rfl
@[simp] theorem hardReset_pcnt (s : State) : (hardReset s).pcnt = State.reset.pcnt := rfl
@[simp] theorem hardReset_pixout (s : State) : (hardReset s).pixout = State.reset.pixout := rfl
@[simp] theorem hardReset_palout (s : State) : (hardReset s).palout = State.reset.palout := rfl
@[simp] theorem hardReset_diag (s : State) : (hardReset s).diag = State.reset.diag := rfl
@[simp] theorem hardReset_rsp (s : State) : (hardReset s).rsp = State.reset.rsp := rfl
@[simp] theorem hardReset_host (s : State) : (hardReset s).host = s.host := rfl

end Sys2Proof.Machine
end

