-- ==== Sys2Proof/Laws/Frames.lean ====
section
/-! SUPPORT. What each conditional operation leaves alone: one lemma per field it never writes. -/

namespace Sys2Proof.Machine

/-! ### `regWrite` -/

@[simp] theorem regWrite_runState (r : Reg) (v : Half) (s : State) : (regWrite r v s).runState = s.runState := by
  cases r <;> rfl
@[simp] theorem regWrite_xpos (r : Reg) (v : Half) (s : State) : (regWrite r v s).xpos = s.xpos := by
  cases r <;> rfl
@[simp] theorem regWrite_ypos (r : Reg) (v : Half) (s : State) : (regWrite r v s).ypos = s.ypos := by
  cases r <;> rfl
@[simp] theorem regWrite_done (r : Reg) (v : Half) (s : State) : (regWrite r v s).done = s.done := by
  cases r <;> rfl
@[simp] theorem regWrite_catlock (r : Reg) (v : Half) (s : State) : (regWrite r v s).catlock = s.catlock := by
  cases r <;> rfl
@[simp] theorem regWrite_ovfl (r : Reg) (v : Half) (s : State) : (regWrite r v s).ovfl = s.ovfl := by
  cases r <;> rfl
@[simp] theorem regWrite_ovf (r : Reg) (v : Half) (s : State) : (regWrite r v s).ovf = s.ovf := by
  cases r <;> rfl
@[simp] theorem regWrite_unr (r : Reg) (v : Half) (s : State) : (regWrite r v s).unr = s.unr := by
  cases r <;> rfl
@[simp] theorem regWrite_trail (r : Reg) (v : Half) (s : State) : (regWrite r v s).trail = s.trail := by
  cases r <;> rfl
@[simp] theorem regWrite_fcode (r : Reg) (v : Half) (s : State) : (regWrite r v s).fcode = s.fcode := by
  cases r <;> rfl
@[simp] theorem regWrite_ovfcnt (r : Reg) (v : Half) (s : State) : (regWrite r v s).ovfcnt = s.ovfcnt := by
  cases r <;> rfl
@[simp] theorem regWrite_unrcnt (r : Reg) (v : Half) (s : State) : (regWrite r v s).unrcnt = s.unrcnt := by
  cases r <;> rfl
@[simp] theorem regWrite_ps (r : Reg) (v : Half) (s : State) : (regWrite r v s).ps = s.ps := by
  cases r <;> rfl
@[simp] theorem regWrite_palcnt (r : Reg) (v : Half) (s : State) : (regWrite r v s).palcnt = s.palcnt := by
  cases r <;> rfl
@[simp] theorem regWrite_cat (r : Reg) (v : Half) (s : State) : (regWrite r v s).cat = s.cat := by
  cases r <;> rfl
@[simp] theorem regWrite_catptr (r : Reg) (v : Half) (s : State) : (regWrite r v s).catptr = s.catptr := by
  cases r <;> rfl
@[simp] theorem regWrite_pacc (r : Reg) (v : Half) (s : State) : (regWrite r v s).pacc = s.pacc := by
  cases r <;> rfl
@[simp] theorem regWrite_pcnt (r : Reg) (v : Half) (s : State) : (regWrite r v s).pcnt = s.pcnt := by
  cases r <;> rfl
@[simp] theorem regWrite_pixout (r : Reg) (v : Half) (s : State) : (regWrite r v s).pixout = s.pixout := by
  cases r <;> rfl
@[simp] theorem regWrite_palout (r : Reg) (v : Half) (s : State) : (regWrite r v s).palout = s.palout := by
  cases r <;> rfl
@[simp] theorem regWrite_diag (r : Reg) (v : Half) (s : State) : (regWrite r v s).diag = s.diag := by
  cases r <;> rfl
@[simp] theorem regWrite_rsp (r : Reg) (v : Half) (s : State) : (regWrite r v s).rsp = s.rsp := by
  cases r <;> rfl
@[simp] theorem regWrite_host (r : Reg) (v : Half) (s : State) : (regWrite r v s).host = s.host := by
  cases r <;> rfl

/-! ### `writeEntry` -/

@[simp] theorem writeEntry_runState (key : Rgb) (val : Byte) (s : State) : (writeEntry key val s).runState = s.runState := by
  unfold writeEntry; split <;> rfl
@[simp] theorem writeEntry_xpos (key : Rgb) (val : Byte) (s : State) : (writeEntry key val s).xpos = s.xpos := by
  unfold writeEntry; split <;> rfl
@[simp] theorem writeEntry_ypos (key : Rgb) (val : Byte) (s : State) : (writeEntry key val s).ypos = s.ypos := by
  unfold writeEntry; split <;> rfl
@[simp] theorem writeEntry_ctrl (key : Rgb) (val : Byte) (s : State) : (writeEntry key val s).ctrl = s.ctrl := by
  unfold writeEntry; split <;> rfl
@[simp] theorem writeEntry_width (key : Rgb) (val : Byte) (s : State) : (writeEntry key val s).width = s.width := by
  unfold writeEntry; split <;> rfl
@[simp] theorem writeEntry_height (key : Rgb) (val : Byte) (s : State) : (writeEntry key val s).height = s.height := by
  unfold writeEntry; split <;> rfl
@[simp] theorem writeEntry_catval (key : Rgb) (val : Byte) (s : State) : (writeEntry key val s).catval = s.catval := by
  unfold writeEntry; split <;> rfl
@[simp] theorem writeEntry_done (key : Rgb) (val : Byte) (s : State) : (writeEntry key val s).done = s.done := by
  unfold writeEntry; split <;> rfl
@[simp] theorem writeEntry_catlock (key : Rgb) (val : Byte) (s : State) : (writeEntry key val s).catlock = s.catlock := by
  unfold writeEntry; split <;> rfl
@[simp] theorem writeEntry_ovfl (key : Rgb) (val : Byte) (s : State) : (writeEntry key val s).ovfl = s.ovfl := by
  unfold writeEntry; split <;> rfl
@[simp] theorem writeEntry_ovf (key : Rgb) (val : Byte) (s : State) : (writeEntry key val s).ovf = s.ovf := by
  unfold writeEntry; split <;> rfl
@[simp] theorem writeEntry_unr (key : Rgb) (val : Byte) (s : State) : (writeEntry key val s).unr = s.unr := by
  unfold writeEntry; split <;> rfl
@[simp] theorem writeEntry_trail (key : Rgb) (val : Byte) (s : State) : (writeEntry key val s).trail = s.trail := by
  unfold writeEntry; split <;> rfl
@[simp] theorem writeEntry_fcode (key : Rgb) (val : Byte) (s : State) : (writeEntry key val s).fcode = s.fcode := by
  unfold writeEntry; split <;> rfl
@[simp] theorem writeEntry_ovfcnt (key : Rgb) (val : Byte) (s : State) : (writeEntry key val s).ovfcnt = s.ovfcnt := by
  unfold writeEntry; split <;> rfl
@[simp] theorem writeEntry_unrcnt (key : Rgb) (val : Byte) (s : State) : (writeEntry key val s).unrcnt = s.unrcnt := by
  unfold writeEntry; split <;> rfl
@[simp] theorem writeEntry_ps (key : Rgb) (val : Byte) (s : State) : (writeEntry key val s).ps = s.ps := by
  unfold writeEntry; split <;> rfl
@[simp] theorem writeEntry_palcnt (key : Rgb) (val : Byte) (s : State) : (writeEntry key val s).palcnt = s.palcnt := by
  unfold writeEntry; split <;> rfl
@[simp] theorem writeEntry_pacc (key : Rgb) (val : Byte) (s : State) : (writeEntry key val s).pacc = s.pacc := by
  unfold writeEntry; split <;> rfl
@[simp] theorem writeEntry_pcnt (key : Rgb) (val : Byte) (s : State) : (writeEntry key val s).pcnt = s.pcnt := by
  unfold writeEntry; split <;> rfl
@[simp] theorem writeEntry_pixout (key : Rgb) (val : Byte) (s : State) : (writeEntry key val s).pixout = s.pixout := by
  unfold writeEntry; split <;> rfl
@[simp] theorem writeEntry_palout (key : Rgb) (val : Byte) (s : State) : (writeEntry key val s).palout = s.palout := by
  unfold writeEntry; split <;> rfl
@[simp] theorem writeEntry_diag (key : Rgb) (val : Byte) (s : State) : (writeEntry key val s).diag = s.diag := by
  unfold writeEntry; split <;> rfl
@[simp] theorem writeEntry_rsp (key : Rgb) (val : Byte) (s : State) : (writeEntry key val s).rsp = s.rsp := by
  unfold writeEntry; split <;> rfl
@[simp] theorem writeEntry_host (key : Rgb) (val : Byte) (s : State) : (writeEntry key val s).host = s.host := by
  unfold writeEntry; split <;> rfl

/-! ### `pack` -/

@[simp] theorem pack_runState (idx : Index) (s : State) : (pack idx s).runState = s.runState := by
  unfold pack; split <;> rfl
@[simp] theorem pack_xpos (idx : Index) (s : State) : (pack idx s).xpos = s.xpos := by
  unfold pack; split <;> rfl
@[simp] theorem pack_ypos (idx : Index) (s : State) : (pack idx s).ypos = s.ypos := by
  unfold pack; split <;> rfl
@[simp] theorem pack_ctrl (idx : Index) (s : State) : (pack idx s).ctrl = s.ctrl := by
  unfold pack; split <;> rfl
@[simp] theorem pack_width (idx : Index) (s : State) : (pack idx s).width = s.width := by
  unfold pack; split <;> rfl
@[simp] theorem pack_height (idx : Index) (s : State) : (pack idx s).height = s.height := by
  unfold pack; split <;> rfl
@[simp] theorem pack_catval (idx : Index) (s : State) : (pack idx s).catval = s.catval := by
  unfold pack; split <;> rfl
@[simp] theorem pack_done (idx : Index) (s : State) : (pack idx s).done = s.done := by
  unfold pack; split <;> rfl
@[simp] theorem pack_catlock (idx : Index) (s : State) : (pack idx s).catlock = s.catlock := by
  unfold pack; split <;> rfl
@[simp] theorem pack_ovfl (idx : Index) (s : State) : (pack idx s).ovfl = s.ovfl := by
  unfold pack; split <;> rfl
@[simp] theorem pack_ovf (idx : Index) (s : State) : (pack idx s).ovf = s.ovf := by
  unfold pack; split <;> rfl
@[simp] theorem pack_unr (idx : Index) (s : State) : (pack idx s).unr = s.unr := by
  unfold pack; split <;> rfl
@[simp] theorem pack_trail (idx : Index) (s : State) : (pack idx s).trail = s.trail := by
  unfold pack; split <;> rfl
@[simp] theorem pack_fcode (idx : Index) (s : State) : (pack idx s).fcode = s.fcode := by
  unfold pack; split <;> rfl
@[simp] theorem pack_ovfcnt (idx : Index) (s : State) : (pack idx s).ovfcnt = s.ovfcnt := by
  unfold pack; split <;> rfl
@[simp] theorem pack_unrcnt (idx : Index) (s : State) : (pack idx s).unrcnt = s.unrcnt := by
  unfold pack; split <;> rfl
@[simp] theorem pack_ps (idx : Index) (s : State) : (pack idx s).ps = s.ps := by
  unfold pack; split <;> rfl
@[simp] theorem pack_palcnt (idx : Index) (s : State) : (pack idx s).palcnt = s.palcnt := by
  unfold pack; split <;> rfl
@[simp] theorem pack_cat (idx : Index) (s : State) : (pack idx s).cat = s.cat := by
  unfold pack; split <;> rfl
@[simp] theorem pack_catptr (idx : Index) (s : State) : (pack idx s).catptr = s.catptr := by
  unfold pack; split <;> rfl
@[simp] theorem pack_palout (idx : Index) (s : State) : (pack idx s).palout = s.palout := by
  unfold pack; split <;> rfl
@[simp] theorem pack_diag (idx : Index) (s : State) : (pack idx s).diag = s.diag := by
  unfold pack; split <;> rfl
@[simp] theorem pack_rsp (idx : Index) (s : State) : (pack idx s).rsp = s.rsp := by
  unfold pack; split <;> rfl
@[simp] theorem pack_host (idx : Index) (s : State) : (pack idx s).host = s.host := by
  unfold pack; split <;> rfl

/-! ### `lineEnd` -/

@[simp] theorem lineEnd_runState (s : State) : (lineEnd s).runState = s.runState := by
  unfold lineEnd; split <;> rfl
@[simp] theorem lineEnd_xpos (s : State) : (lineEnd s).xpos = s.xpos := by
  unfold lineEnd; split <;> rfl
@[simp] theorem lineEnd_ypos (s : State) : (lineEnd s).ypos = s.ypos := by
  unfold lineEnd; split <;> rfl
@[simp] theorem lineEnd_ctrl (s : State) : (lineEnd s).ctrl = s.ctrl := by
  unfold lineEnd; split <;> rfl
@[simp] theorem lineEnd_width (s : State) : (lineEnd s).width = s.width := by
  unfold lineEnd; split <;> rfl
@[simp] theorem lineEnd_height (s : State) : (lineEnd s).height = s.height := by
  unfold lineEnd; split <;> rfl
@[simp] theorem lineEnd_catval (s : State) : (lineEnd s).catval = s.catval := by
  unfold lineEnd; split <;> rfl
@[simp] theorem lineEnd_done (s : State) : (lineEnd s).done = s.done := by
  unfold lineEnd; split <;> rfl
@[simp] theorem lineEnd_catlock (s : State) : (lineEnd s).catlock = s.catlock := by
  unfold lineEnd; split <;> rfl
@[simp] theorem lineEnd_ovf (s : State) : (lineEnd s).ovf = s.ovf := by
  unfold lineEnd; split <;> rfl
@[simp] theorem lineEnd_unr (s : State) : (lineEnd s).unr = s.unr := by
  unfold lineEnd; split <;> rfl
@[simp] theorem lineEnd_trail (s : State) : (lineEnd s).trail = s.trail := by
  unfold lineEnd; split <;> rfl
@[simp] theorem lineEnd_fcode (s : State) : (lineEnd s).fcode = s.fcode := by
  unfold lineEnd; split <;> rfl
@[simp] theorem lineEnd_ovfcnt (s : State) : (lineEnd s).ovfcnt = s.ovfcnt := by
  unfold lineEnd; split <;> rfl
@[simp] theorem lineEnd_unrcnt (s : State) : (lineEnd s).unrcnt = s.unrcnt := by
  unfold lineEnd; split <;> rfl
@[simp] theorem lineEnd_ps (s : State) : (lineEnd s).ps = s.ps := by
  unfold lineEnd; split <;> rfl
@[simp] theorem lineEnd_cat (s : State) : (lineEnd s).cat = s.cat := by
  unfold lineEnd; split <;> rfl
@[simp] theorem lineEnd_catptr (s : State) : (lineEnd s).catptr = s.catptr := by
  unfold lineEnd; split <;> rfl
@[simp] theorem lineEnd_pacc (s : State) : (lineEnd s).pacc = s.pacc := by
  unfold lineEnd; split <;> rfl
@[simp] theorem lineEnd_pcnt (s : State) : (lineEnd s).pcnt = s.pcnt := by
  unfold lineEnd; split <;> rfl
@[simp] theorem lineEnd_pixout (s : State) : (lineEnd s).pixout = s.pixout := by
  unfold lineEnd; split <;> rfl
@[simp] theorem lineEnd_diag (s : State) : (lineEnd s).diag = s.diag := by
  unfold lineEnd; split <;> rfl
@[simp] theorem lineEnd_rsp (s : State) : (lineEnd s).rsp = s.rsp := by
  unfold lineEnd; split <;> rfl
@[simp] theorem lineEnd_host (s : State) : (lineEnd s).host = s.host := by
  unfold lineEnd; split <;> rfl

/-! ### `frameEnd` -/

@[simp] theorem frameEnd_xpos (s : State) : (frameEnd s).xpos = s.xpos := by
  unfold frameEnd; split <;> rfl
@[simp] theorem frameEnd_ypos (s : State) : (frameEnd s).ypos = s.ypos := by
  unfold frameEnd; split <;> rfl
@[simp] theorem frameEnd_ctrl (s : State) : (frameEnd s).ctrl = s.ctrl := by
  unfold frameEnd; split <;> rfl
@[simp] theorem frameEnd_width (s : State) : (frameEnd s).width = s.width := by
  unfold frameEnd; split <;> rfl
@[simp] theorem frameEnd_height (s : State) : (frameEnd s).height = s.height := by
  unfold frameEnd; split <;> rfl
@[simp] theorem frameEnd_catval (s : State) : (frameEnd s).catval = s.catval := by
  unfold frameEnd; split <;> rfl
@[simp] theorem frameEnd_catlock (s : State) : (frameEnd s).catlock = s.catlock := by
  unfold frameEnd; split <;> rfl
@[simp] theorem frameEnd_ovfl (s : State) : (frameEnd s).ovfl = s.ovfl := by
  unfold frameEnd; split <;> rfl
@[simp] theorem frameEnd_ovf (s : State) : (frameEnd s).ovf = s.ovf := by
  unfold frameEnd; split <;> rfl
@[simp] theorem frameEnd_unr (s : State) : (frameEnd s).unr = s.unr := by
  unfold frameEnd; split <;> rfl
@[simp] theorem frameEnd_trail (s : State) : (frameEnd s).trail = s.trail := by
  unfold frameEnd; split <;> rfl
@[simp] theorem frameEnd_fcode (s : State) : (frameEnd s).fcode = s.fcode := by
  unfold frameEnd; split <;> rfl
@[simp] theorem frameEnd_ovfcnt (s : State) : (frameEnd s).ovfcnt = s.ovfcnt := by
  unfold frameEnd; split <;> rfl
@[simp] theorem frameEnd_unrcnt (s : State) : (frameEnd s).unrcnt = s.unrcnt := by
  unfold frameEnd; split <;> rfl
@[simp] theorem frameEnd_ps (s : State) : (frameEnd s).ps = s.ps := by
  unfold frameEnd; split <;> rfl
@[simp] theorem frameEnd_palcnt (s : State) : (frameEnd s).palcnt = s.palcnt := by
  unfold frameEnd; split <;> rfl
@[simp] theorem frameEnd_cat (s : State) : (frameEnd s).cat = s.cat := by
  unfold frameEnd; split <;> rfl
@[simp] theorem frameEnd_catptr (s : State) : (frameEnd s).catptr = s.catptr := by
  unfold frameEnd; split <;> rfl
@[simp] theorem frameEnd_pacc (s : State) : (frameEnd s).pacc = s.pacc := by
  unfold frameEnd; split <;> rfl
@[simp] theorem frameEnd_pcnt (s : State) : (frameEnd s).pcnt = s.pcnt := by
  unfold frameEnd; split <;> rfl
@[simp] theorem frameEnd_pixout (s : State) : (frameEnd s).pixout = s.pixout := by
  unfold frameEnd; split <;> rfl
@[simp] theorem frameEnd_diag (s : State) : (frameEnd s).diag = s.diag := by
  unfold frameEnd; split <;> rfl
@[simp] theorem frameEnd_rsp (s : State) : (frameEnd s).rsp = s.rsp := by
  unfold frameEnd; split <;> rfl
@[simp] theorem frameEnd_host (s : State) : (frameEnd s).host = s.host := by
  unfold frameEnd; split <;> rfl

/-! ### `nextLine` -/

@[simp] theorem nextLine_ctrl (s : State) : (nextLine s).ctrl = s.ctrl := by
  unfold nextLine; split <;> simp
@[simp] theorem nextLine_width (s : State) : (nextLine s).width = s.width := by
  unfold nextLine; split <;> simp
@[simp] theorem nextLine_height (s : State) : (nextLine s).height = s.height := by
  unfold nextLine; split <;> simp
@[simp] theorem nextLine_catval (s : State) : (nextLine s).catval = s.catval := by
  unfold nextLine; split <;> simp
@[simp] theorem nextLine_catlock (s : State) : (nextLine s).catlock = s.catlock := by
  unfold nextLine; split <;> simp
@[simp] theorem nextLine_ovfl (s : State) : (nextLine s).ovfl = s.ovfl := by
  unfold nextLine; split <;> simp
@[simp] theorem nextLine_ovf (s : State) : (nextLine s).ovf = s.ovf := by
  unfold nextLine; split <;> simp
@[simp] theorem nextLine_unr (s : State) : (nextLine s).unr = s.unr := by
  unfold nextLine; split <;> simp
@[simp] theorem nextLine_trail (s : State) : (nextLine s).trail = s.trail := by
  unfold nextLine; split <;> simp
@[simp] theorem nextLine_fcode (s : State) : (nextLine s).fcode = s.fcode := by
  unfold nextLine; split <;> simp
@[simp] theorem nextLine_ovfcnt (s : State) : (nextLine s).ovfcnt = s.ovfcnt := by
  unfold nextLine; split <;> simp
@[simp] theorem nextLine_unrcnt (s : State) : (nextLine s).unrcnt = s.unrcnt := by
  unfold nextLine; split <;> simp
@[simp] theorem nextLine_ps (s : State) : (nextLine s).ps = s.ps := by
  unfold nextLine; split <;> simp
@[simp] theorem nextLine_palcnt (s : State) : (nextLine s).palcnt = s.palcnt := by
  unfold nextLine; split <;> simp
@[simp] theorem nextLine_cat (s : State) : (nextLine s).cat = s.cat := by
  unfold nextLine; split <;> simp
@[simp] theorem nextLine_catptr (s : State) : (nextLine s).catptr = s.catptr := by
  unfold nextLine; split <;> simp
@[simp] theorem nextLine_pacc (s : State) : (nextLine s).pacc = s.pacc := by
  unfold nextLine; split <;> simp
@[simp] theorem nextLine_pcnt (s : State) : (nextLine s).pcnt = s.pcnt := by
  unfold nextLine; split <;> simp
@[simp] theorem nextLine_pixout (s : State) : (nextLine s).pixout = s.pixout := by
  unfold nextLine; split <;> simp
@[simp] theorem nextLine_diag (s : State) : (nextLine s).diag = s.diag := by
  unfold nextLine; split <;> simp
@[simp] theorem nextLine_rsp (s : State) : (nextLine s).rsp = s.rsp := by
  unfold nextLine; split <;> simp
@[simp] theorem nextLine_host (s : State) : (nextLine s).host = s.host := by
  unfold nextLine; split <;> simp

/-! ### `advance` -/

@[simp] theorem advance_ctrl (s : State) : (advance s).ctrl = s.ctrl := by
  unfold advance; split <;> simp
@[simp] theorem advance_width (s : State) : (advance s).width = s.width := by
  unfold advance; split <;> simp
@[simp] theorem advance_height (s : State) : (advance s).height = s.height := by
  unfold advance; split <;> simp
@[simp] theorem advance_catval (s : State) : (advance s).catval = s.catval := by
  unfold advance; split <;> simp
@[simp] theorem advance_catlock (s : State) : (advance s).catlock = s.catlock := by
  unfold advance; split <;> simp
@[simp] theorem advance_ovf (s : State) : (advance s).ovf = s.ovf := by
  unfold advance; split <;> simp
@[simp] theorem advance_unr (s : State) : (advance s).unr = s.unr := by
  unfold advance; split <;> simp
@[simp] theorem advance_trail (s : State) : (advance s).trail = s.trail := by
  unfold advance; split <;> simp
@[simp] theorem advance_fcode (s : State) : (advance s).fcode = s.fcode := by
  unfold advance; split <;> simp
@[simp] theorem advance_ovfcnt (s : State) : (advance s).ovfcnt = s.ovfcnt := by
  unfold advance; split <;> simp
@[simp] theorem advance_unrcnt (s : State) : (advance s).unrcnt = s.unrcnt := by
  unfold advance; split <;> simp
@[simp] theorem advance_ps (s : State) : (advance s).ps = s.ps := by
  unfold advance; split <;> simp
@[simp] theorem advance_cat (s : State) : (advance s).cat = s.cat := by
  unfold advance; split <;> simp
@[simp] theorem advance_catptr (s : State) : (advance s).catptr = s.catptr := by
  unfold advance; split <;> simp
@[simp] theorem advance_pacc (s : State) : (advance s).pacc = s.pacc := by
  unfold advance; split <;> simp
@[simp] theorem advance_pcnt (s : State) : (advance s).pcnt = s.pcnt := by
  unfold advance; split <;> simp
@[simp] theorem advance_pixout (s : State) : (advance s).pixout = s.pixout := by
  unfold advance; split <;> simp
@[simp] theorem advance_diag (s : State) : (advance s).diag = s.diag := by
  unfold advance; split <;> simp
@[simp] theorem advance_rsp (s : State) : (advance s).rsp = s.rsp := by
  unfold advance; split <;> simp
@[simp] theorem advance_host (s : State) : (advance s).host = s.host := by
  unfold advance; split <;> simp

/-! ### `reportOverflow` -/

@[simp] theorem reportOverflow_runState (rgb : Rgb) (s : State) : (reportOverflow rgb s).runState = s.runState := by
  unfold reportOverflow; split <;> rfl
@[simp] theorem reportOverflow_xpos (rgb : Rgb) (s : State) : (reportOverflow rgb s).xpos = s.xpos := by
  unfold reportOverflow; split <;> rfl
@[simp] theorem reportOverflow_ypos (rgb : Rgb) (s : State) : (reportOverflow rgb s).ypos = s.ypos := by
  unfold reportOverflow; split <;> rfl
@[simp] theorem reportOverflow_ctrl (rgb : Rgb) (s : State) : (reportOverflow rgb s).ctrl = s.ctrl := by
  unfold reportOverflow; split <;> rfl
@[simp] theorem reportOverflow_width (rgb : Rgb) (s : State) : (reportOverflow rgb s).width = s.width := by
  unfold reportOverflow; split <;> rfl
@[simp] theorem reportOverflow_height (rgb : Rgb) (s : State) : (reportOverflow rgb s).height = s.height := by
  unfold reportOverflow; split <;> rfl
@[simp] theorem reportOverflow_catval (rgb : Rgb) (s : State) : (reportOverflow rgb s).catval = s.catval := by
  unfold reportOverflow; split <;> rfl
@[simp] theorem reportOverflow_done (rgb : Rgb) (s : State) : (reportOverflow rgb s).done = s.done := by
  unfold reportOverflow; split <;> rfl
@[simp] theorem reportOverflow_catlock (rgb : Rgb) (s : State) : (reportOverflow rgb s).catlock = s.catlock := by
  unfold reportOverflow; split <;> rfl
@[simp] theorem reportOverflow_unr (rgb : Rgb) (s : State) : (reportOverflow rgb s).unr = s.unr := by
  unfold reportOverflow; split <;> rfl
@[simp] theorem reportOverflow_trail (rgb : Rgb) (s : State) : (reportOverflow rgb s).trail = s.trail := by
  unfold reportOverflow; split <;> rfl
@[simp] theorem reportOverflow_fcode (rgb : Rgb) (s : State) : (reportOverflow rgb s).fcode = s.fcode := by
  unfold reportOverflow; split <;> rfl
@[simp] theorem reportOverflow_unrcnt (rgb : Rgb) (s : State) : (reportOverflow rgb s).unrcnt = s.unrcnt := by
  unfold reportOverflow; split <;> rfl
@[simp] theorem reportOverflow_ps (rgb : Rgb) (s : State) : (reportOverflow rgb s).ps = s.ps := by
  unfold reportOverflow; split <;> rfl
@[simp] theorem reportOverflow_palcnt (rgb : Rgb) (s : State) : (reportOverflow rgb s).palcnt = s.palcnt := by
  unfold reportOverflow; split <;> rfl
@[simp] theorem reportOverflow_cat (rgb : Rgb) (s : State) : (reportOverflow rgb s).cat = s.cat := by
  unfold reportOverflow; split <;> rfl
@[simp] theorem reportOverflow_catptr (rgb : Rgb) (s : State) : (reportOverflow rgb s).catptr = s.catptr := by
  unfold reportOverflow; split <;> rfl
@[simp] theorem reportOverflow_pacc (rgb : Rgb) (s : State) : (reportOverflow rgb s).pacc = s.pacc := by
  unfold reportOverflow; split <;> rfl
@[simp] theorem reportOverflow_pcnt (rgb : Rgb) (s : State) : (reportOverflow rgb s).pcnt = s.pcnt := by
  unfold reportOverflow; split <;> rfl
@[simp] theorem reportOverflow_pixout (rgb : Rgb) (s : State) : (reportOverflow rgb s).pixout = s.pixout := by
  unfold reportOverflow; split <;> rfl
@[simp] theorem reportOverflow_palout (rgb : Rgb) (s : State) : (reportOverflow rgb s).palout = s.palout := by
  unfold reportOverflow; split <;> rfl
@[simp] theorem reportOverflow_rsp (rgb : Rgb) (s : State) : (reportOverflow rgb s).rsp = s.rsp := by
  unfold reportOverflow; split <;> rfl
@[simp] theorem reportOverflow_host (rgb : Rgb) (s : State) : (reportOverflow rgb s).host = s.host := by
  unfold reportOverflow; split <;> rfl

/-! ### `populate` -/

@[simp] theorem populate_runState (key : Rgb) (hw : Byte) (s : State) : (populate key hw s).runState = s.runState := by
  unfold populate; split <;> rfl
@[simp] theorem populate_xpos (key : Rgb) (hw : Byte) (s : State) : (populate key hw s).xpos = s.xpos := by
  unfold populate; split <;> rfl
@[simp] theorem populate_ypos (key : Rgb) (hw : Byte) (s : State) : (populate key hw s).ypos = s.ypos := by
  unfold populate; split <;> rfl
@[simp] theorem populate_ctrl (key : Rgb) (hw : Byte) (s : State) : (populate key hw s).ctrl = s.ctrl := by
  unfold populate; split <;> rfl
@[simp] theorem populate_width (key : Rgb) (hw : Byte) (s : State) : (populate key hw s).width = s.width := by
  unfold populate; split <;> rfl
@[simp] theorem populate_height (key : Rgb) (hw : Byte) (s : State) : (populate key hw s).height = s.height := by
  unfold populate; split <;> rfl
@[simp] theorem populate_catval (key : Rgb) (hw : Byte) (s : State) : (populate key hw s).catval = s.catval := by
  unfold populate; split <;> rfl
@[simp] theorem populate_done (key : Rgb) (hw : Byte) (s : State) : (populate key hw s).done = s.done := by
  unfold populate; split <;> rfl
@[simp] theorem populate_catlock (key : Rgb) (hw : Byte) (s : State) : (populate key hw s).catlock = s.catlock := by
  unfold populate; split <;> rfl
@[simp] theorem populate_ovfl (key : Rgb) (hw : Byte) (s : State) : (populate key hw s).ovfl = s.ovfl := by
  unfold populate; split <;> rfl
@[simp] theorem populate_ovf (key : Rgb) (hw : Byte) (s : State) : (populate key hw s).ovf = s.ovf := by
  unfold populate; split <;> rfl
@[simp] theorem populate_unr (key : Rgb) (hw : Byte) (s : State) : (populate key hw s).unr = s.unr := by
  unfold populate; split <;> rfl
@[simp] theorem populate_trail (key : Rgb) (hw : Byte) (s : State) : (populate key hw s).trail = s.trail := by
  unfold populate; split <;> rfl
@[simp] theorem populate_fcode (key : Rgb) (hw : Byte) (s : State) : (populate key hw s).fcode = s.fcode := by
  unfold populate; split <;> rfl
@[simp] theorem populate_ovfcnt (key : Rgb) (hw : Byte) (s : State) : (populate key hw s).ovfcnt = s.ovfcnt := by
  unfold populate; split <;> rfl
@[simp] theorem populate_unrcnt (key : Rgb) (hw : Byte) (s : State) : (populate key hw s).unrcnt = s.unrcnt := by
  unfold populate; split <;> rfl
@[simp] theorem populate_cat (key : Rgb) (hw : Byte) (s : State) : (populate key hw s).cat = s.cat := by
  unfold populate; split <;> rfl
@[simp] theorem populate_catptr (key : Rgb) (hw : Byte) (s : State) : (populate key hw s).catptr = s.catptr := by
  unfold populate; split <;> rfl
@[simp] theorem populate_pacc (key : Rgb) (hw : Byte) (s : State) : (populate key hw s).pacc = s.pacc := by
  unfold populate; split <;> rfl
@[simp] theorem populate_pcnt (key : Rgb) (hw : Byte) (s : State) : (populate key hw s).pcnt = s.pcnt := by
  unfold populate; split <;> rfl
@[simp] theorem populate_pixout (key : Rgb) (hw : Byte) (s : State) : (populate key hw s).pixout = s.pixout := by
  unfold populate; split <;> rfl
@[simp] theorem populate_palout (key : Rgb) (hw : Byte) (s : State) : (populate key hw s).palout = s.palout := by
  unfold populate; split <;> rfl
@[simp] theorem populate_diag (key : Rgb) (hw : Byte) (s : State) : (populate key hw s).diag = s.diag := by
  unfold populate; split <;> rfl
@[simp] theorem populate_rsp (key : Rgb) (hw : Byte) (s : State) : (populate key hw s).rsp = s.rsp := by
  unfold populate; split <;> rfl
@[simp] theorem populate_host (key : Rgb) (hw : Byte) (s : State) : (populate key hw s).host = s.host := by
  unfold populate; split <;> rfl

/-! ### `allocate` -/

@[simp] theorem allocate_runState (rgb : Rgb) (s : State) : (allocate rgb s).runState = s.runState := by
  unfold allocate; split <;> simp
@[simp] theorem allocate_xpos (rgb : Rgb) (s : State) : (allocate rgb s).xpos = s.xpos := by
  unfold allocate; split <;> simp
@[simp] theorem allocate_ypos (rgb : Rgb) (s : State) : (allocate rgb s).ypos = s.ypos := by
  unfold allocate; split <;> simp
@[simp] theorem allocate_ctrl (rgb : Rgb) (s : State) : (allocate rgb s).ctrl = s.ctrl := by
  unfold allocate; split <;> simp
@[simp] theorem allocate_width (rgb : Rgb) (s : State) : (allocate rgb s).width = s.width := by
  unfold allocate; split <;> simp
@[simp] theorem allocate_height (rgb : Rgb) (s : State) : (allocate rgb s).height = s.height := by
  unfold allocate; split <;> simp
@[simp] theorem allocate_catval (rgb : Rgb) (s : State) : (allocate rgb s).catval = s.catval := by
  unfold allocate; split <;> simp
@[simp] theorem allocate_done (rgb : Rgb) (s : State) : (allocate rgb s).done = s.done := by
  unfold allocate; split <;> simp
@[simp] theorem allocate_catlock (rgb : Rgb) (s : State) : (allocate rgb s).catlock = s.catlock := by
  unfold allocate; split <;> simp
@[simp] theorem allocate_ovfl (rgb : Rgb) (s : State) : (allocate rgb s).ovfl = s.ovfl := by
  unfold allocate; split <;> simp
@[simp] theorem allocate_ovf (rgb : Rgb) (s : State) : (allocate rgb s).ovf = s.ovf := by
  unfold allocate; split <;> simp
@[simp] theorem allocate_trail (rgb : Rgb) (s : State) : (allocate rgb s).trail = s.trail := by
  unfold allocate; split <;> simp
@[simp] theorem allocate_fcode (rgb : Rgb) (s : State) : (allocate rgb s).fcode = s.fcode := by
  unfold allocate; split <;> simp
@[simp] theorem allocate_ovfcnt (rgb : Rgb) (s : State) : (allocate rgb s).ovfcnt = s.ovfcnt := by
  unfold allocate; split <;> simp
@[simp] theorem allocate_cat (rgb : Rgb) (s : State) : (allocate rgb s).cat = s.cat := by
  unfold allocate; split <;> simp
@[simp] theorem allocate_catptr (rgb : Rgb) (s : State) : (allocate rgb s).catptr = s.catptr := by
  unfold allocate; split <;> simp
@[simp] theorem allocate_pacc (rgb : Rgb) (s : State) : (allocate rgb s).pacc = s.pacc := by
  unfold allocate; split <;> simp
@[simp] theorem allocate_pcnt (rgb : Rgb) (s : State) : (allocate rgb s).pcnt = s.pcnt := by
  unfold allocate; split <;> simp
@[simp] theorem allocate_pixout (rgb : Rgb) (s : State) : (allocate rgb s).pixout = s.pixout := by
  unfold allocate; split <;> simp
@[simp] theorem allocate_palout (rgb : Rgb) (s : State) : (allocate rgb s).palout = s.palout := by
  unfold allocate; split <;> simp
@[simp] theorem allocate_rsp (rgb : Rgb) (s : State) : (allocate rgb s).rsp = s.rsp := by
  unfold allocate; split <;> simp
@[simp] theorem allocate_host (rgb : Rgb) (s : State) : (allocate rgb s).host = s.host := by
  unfold allocate; split <;> simp

/-! ### `accumulate` -/

@[simp] theorem accumulate_runState (rgb : Rgb) (s : State) : (accumulate rgb s).2.runState = s.runState := by
  unfold accumulate; split
  · rfl
  · split <;> simp
@[simp] theorem accumulate_xpos (rgb : Rgb) (s : State) : (accumulate rgb s).2.xpos = s.xpos := by
  unfold accumulate; split
  · rfl
  · split <;> simp
@[simp] theorem accumulate_ypos (rgb : Rgb) (s : State) : (accumulate rgb s).2.ypos = s.ypos := by
  unfold accumulate; split
  · rfl
  · split <;> simp
@[simp] theorem accumulate_ctrl (rgb : Rgb) (s : State) : (accumulate rgb s).2.ctrl = s.ctrl := by
  unfold accumulate; split
  · rfl
  · split <;> simp
@[simp] theorem accumulate_width (rgb : Rgb) (s : State) : (accumulate rgb s).2.width = s.width := by
  unfold accumulate; split
  · rfl
  · split <;> simp
@[simp] theorem accumulate_height (rgb : Rgb) (s : State) : (accumulate rgb s).2.height = s.height := by
  unfold accumulate; split
  · rfl
  · split <;> simp
@[simp] theorem accumulate_catval (rgb : Rgb) (s : State) : (accumulate rgb s).2.catval = s.catval := by
  unfold accumulate; split
  · rfl
  · split <;> simp
@[simp] theorem accumulate_done (rgb : Rgb) (s : State) : (accumulate rgb s).2.done = s.done := by
  unfold accumulate; split
  · rfl
  · split <;> simp
@[simp] theorem accumulate_catlock (rgb : Rgb) (s : State) : (accumulate rgb s).2.catlock = s.catlock := by
  unfold accumulate; split
  · rfl
  · split <;> simp
@[simp] theorem accumulate_trail (rgb : Rgb) (s : State) : (accumulate rgb s).2.trail = s.trail := by
  unfold accumulate; split
  · rfl
  · split <;> simp
@[simp] theorem accumulate_fcode (rgb : Rgb) (s : State) : (accumulate rgb s).2.fcode = s.fcode := by
  unfold accumulate; split
  · rfl
  · split <;> simp
@[simp] theorem accumulate_cat (rgb : Rgb) (s : State) : (accumulate rgb s).2.cat = s.cat := by
  unfold accumulate; split
  · rfl
  · split <;> simp
@[simp] theorem accumulate_catptr (rgb : Rgb) (s : State) : (accumulate rgb s).2.catptr = s.catptr := by
  unfold accumulate; split
  · rfl
  · split <;> simp
@[simp] theorem accumulate_pacc (rgb : Rgb) (s : State) : (accumulate rgb s).2.pacc = s.pacc := by
  unfold accumulate; split
  · rfl
  · split <;> simp
@[simp] theorem accumulate_pcnt (rgb : Rgb) (s : State) : (accumulate rgb s).2.pcnt = s.pcnt := by
  unfold accumulate; split
  · rfl
  · split <;> simp
@[simp] theorem accumulate_pixout (rgb : Rgb) (s : State) : (accumulate rgb s).2.pixout = s.pixout := by
  unfold accumulate; split
  · rfl
  · split <;> simp
@[simp] theorem accumulate_palout (rgb : Rgb) (s : State) : (accumulate rgb s).2.palout = s.palout := by
  unfold accumulate; split
  · rfl
  · split <;> simp
@[simp] theorem accumulate_rsp (rgb : Rgb) (s : State) : (accumulate rgb s).2.rsp = s.rsp := by
  unfold accumulate; split
  · rfl
  · split <;> simp
@[simp] theorem accumulate_host (rgb : Rgb) (s : State) : (accumulate rgb s).2.host = s.host := by
  unfold accumulate; split
  · rfl
  · split <;> simp

end Sys2Proof.Machine
end

