-- ==== Sys2Proof/Laws/Ops.lean ====
section
/-! SUPPORT. What each shared operation can do, said once: proofs cite these and do not unfold the
operations again. -/

namespace Sys2Proof.Machine

/-! ### The fields of `CTRL` as numbers -/

theorem mode_bits (s : State) : (s.ctrl.extractLsb' 0 3).toNat = s.modeNum := by
  simp [State.modeNum, BitVec.extractLsb'_toNat]

theorem rawbpp_bits (s : State) : (rawbppOf s.ctrl).toNat = s.rawbppNum := by
  simp [rawbppOf, State.rawbppNum, BitVec.extractLsb'_toNat, Nat.shiftRight_eq_div_pow]

theorem modeNum_lt (s : State) : s.modeNum < 8 := Nat.mod_lt _ (by decide)

/-- The mode of a `CTRL` is the one its number names (R15). -/
theorem modeOf_eq (s : State) :
    modeOf s.ctrl =
      if s.modeNum = 0 then .dir1 else if s.modeNum = 1 then .dir2 else if s.modeNum = 2 then .dir4
      else if s.modeNum = 3 then .dith else if s.modeNum = 4 then .glob else if s.modeNum = 5 then .line
      else if s.modeNum = 6 then .raw else .reserved := by
  simp only [modeOf, modeOfBits, ← mode_bits, ← BitVec.toNat_inj]
  rfl

theorem modeOf_glob {s : State} : modeOf s.ctrl = .glob ↔ s.modeNum = 4 := by
  rw [modeOf_eq]
  have := modeNum_lt s
  interval_cases s.modeNum <;> decide

theorem modeOf_line {s : State} : modeOf s.ctrl = .line ↔ s.modeNum = 5 := by
  rw [modeOf_eq]
  have := modeNum_lt s
  interval_cases s.modeNum <;> decide

theorem modeOf_raw {s : State} : modeOf s.ctrl = .raw ↔ s.modeNum = 6 := by
  rw [modeOf_eq]
  have := modeNum_lt s
  interval_cases s.modeNum <;> decide

theorem adaptive_iff {s : State} : adaptive s.ctrl = true ↔ s.modeNum = 4 ∨ s.modeNum = 5 := by
  simp [adaptive, modeOf_glob, modeOf_line]

/-- Outside the two reserved contents of `CTRL` an index has 1, 2 or 4 bits (R15). -/
theorem bpp_cases {ctrl : Half} (h : reservedConfig ctrl = false) :
    (bpp ctrl = 1 ∧ ppb ctrl = 8) ∨ (bpp ctrl = 2 ∧ ppb ctrl = 4) ∨ (bpp ctrl = 4 ∧ ppb ctrl = 2) := by
  have hb : bpp ctrl = 1 ∨ bpp ctrl = 2 ∨ bpp ctrl = 4 := by
    unfold reservedConfig at h
    unfold bpp
    cases hm : modeOf ctrl <;> simp_all
    have hr := h
    generalize rawbppOf ctrl = r at hr ⊢
    revert r
    intro r hr
    by_cases h0 : r = 0
    · simp [h0]
    by_cases h1 : r = 1
    · simp [h1]
    by_cases h2 : r = 2
    · simp [h2]
    exact absurd (by bv_omega : r = 3) hr
  rcases hb with h | h | h <;> simp [ppb, h]

/-! ### Taking words in each `STATE` -/

theorem illegalWord_fault {w : Word} {s : State} (h : s.runState = .fault) : illegalWord w s = s := by
  simp [illegalWord, h]

theorem illegalWord_raises {w : Word} {s : State} (h : s.runState ≠ .fault) :
    illegalWord w s = raise .illegalCommand w s := by
  unfold illegalWord
  cases hs : s.runState <;> simp_all

theorem idleOnly_idle {w : Word} {act : State → State} {s : State} (h : s.runState = .idle) :
    idleOnly w act s = act s := by
  simp [idleOnly, h]

theorem idleOnly_run {w : Word} {act : State → State} {s : State} (h : s.runState = .run) :
    idleOnly w act s = raise .protocol w s := by
  simp [idleOnly, h]

theorem idleOnly_fault {w : Word} {act : State → State} {s : State} (h : s.runState = .fault) :
    idleOnly w act s = s := by
  simp [idleOnly, h]

theorem pixelFrame_idle {w : Word} {b : Bool} {act : State → State} {s : State} (h : s.runState = .idle) :
    pixelFrame w b act s = markTrail s := by
  simp [pixelFrame, h]

theorem pixelFrame_fault {w : Word} {b : Bool} {act : State → State} {s : State} (h : s.runState = .fault) :
    pixelFrame w b act s = s := by
  simp [pixelFrame, h]

theorem pixelFrame_accepts {w : Word} {act : State → State} {s : State} (h : s.runState = .run) :
    pixelFrame w true act s = act s := by
  simp [pixelFrame, h]

theorem pixelFrame_rejects {w : Word} {act : State → State} {s : State} (h : s.runState = .run) :
    pixelFrame w false act s = raise .protocol w s := by
  simp [pixelFrame, h]

/-! ### Every meaning answers a next state -/

/-- A command always answers a next state: no command stops the model (R191). -/
theorem exec_answers (i : Instr) (s : State) : ∃ t, exec i s = .next t := by
  cases i <;> exact ⟨_, rfl⟩

/-- A word always answers a next state. -/
theorem runWord_answers (w : Word) (s : State) : ∃ t, runWord w s = .next t := by
  unfold runWord
  split
  · exact exec_answers _ _
  · exact ⟨_, rfl⟩

/-- What a step can do: nothing, a command, an illegal word, or the reset input. -/
theorem step_cases {s t : State} (h : step s = .next t) :
    (s.host = [] ∧ t = s) ∨
    (∃ w rest i, s.host = .word w :: rest ∧ decode w = .legal i ∧ exec i { s with host := rest } = .next t) ∨
    (∃ w rest why, s.host = .word w :: rest ∧ decode w = .illegal why ∧
      t = illegalWord w { s with host := rest }) ∨
    (∃ lost rest, s.host = .reset lost :: rest ∧ t = hardReset { s with host := rest }) := by
  unfold step nextEvent runWord at h
  split at h
  · exact .inl ⟨‹_›, (Host.Outcome.next.inj h).symm⟩
  · split at h
    · exact .inr (.inl ⟨_, _, _, ‹_›, ‹_›, h⟩)
    · exact .inr (.inr (.inl ⟨_, _, _, ‹_›, ‹_›, (Host.Outcome.next.inj h).symm⟩))
  · exact .inr (.inr (.inr ⟨_, _, ‹_›, (Host.Outcome.next.inj h).symm⟩))

/-- One step of a run, then the rest of it. -/
theorem steps_succ {s t : State} (n : Nat) (h : step s = .next t) : steps (n + 1) s = steps n t := by
  simp [steps, h]

/-! ### The packer and the raster -/

theorem pack_full {idx : Index} {s : State} (h : s.pcnt.val + 1 = ppb s.ctrl) :
    pack idx s =
      { s with pixout := s.pixout ++ [(s.pacc <<< bpp s.ctrl) ||| idx.setWidth 8], pacc := 0, pcnt := 0 } := by
  simp [pack, h]

theorem pack_partial {idx : Index} {s : State} (h : s.pcnt.val + 1 ≠ ppb s.ctrl) :
    pack idx s =
      { s with pacc := (s.pacc <<< bpp s.ctrl) ||| idx.setWidth 8, pcnt := Fin.ofNat 8 (s.pcnt.val + 1) } := by
  simp [pack, h]

theorem lineEnd_line {s : State} (h : modeOf s.ctrl = .line) :
    lineEnd s = { emitPalette s with palcnt := 0, ovfl := false } := by
  simp [lineEnd, h]

theorem lineEnd_other {s : State} (h : modeOf s.ctrl ≠ .line) : lineEnd s = s := by
  simp [lineEnd, h]

theorem frameEnd_glob {s : State} (h : modeOf s.ctrl = .glob) :
    frameEnd s = { emitPalette s with runState := .idle, done := true } := by
  simp [frameEnd, h]

theorem frameEnd_other {s : State} (h : modeOf s.ctrl ≠ .glob) :
    frameEnd s = { s with runState := .idle, done := true } := by
  simp [frameEnd, h]

/-- Both cases of the frame end leave `RUN` with `DONE` (R107). -/
@[simp] theorem frameEnd_runState (s : State) : (frameEnd s).runState = .idle := rfl
@[simp] theorem frameEnd_done (s : State) : (frameEnd s).done = true := rfl

/-- The three cases of the raster advance: inside a scanline, at its end, at the frame's end (R105). -/
theorem advance_cases (s : State) :
    (s.xpos + 1 ≠ s.width ∧ advance s = { s with xpos := s.xpos + 1 }) ∨
    (s.xpos + 1 = s.width ∧ s.ypos + 1 ≠ s.height ∧
      advance s = { lineEnd { s with xpos := s.xpos + 1 } with xpos := 0, ypos := s.ypos + 1 }) ∨
    (s.xpos + 1 = s.width ∧ s.ypos + 1 = s.height ∧
      advance s = frameEnd { lineEnd { s with xpos := s.xpos + 1 } with xpos := 0, ypos := s.ypos + 1 }) := by
  by_cases hx : s.xpos + 1 = s.width
  · by_cases hy : s.ypos + 1 = s.height
    · refine .inr (.inr ⟨hx, hy, ?_⟩)
      rw [advance, if_pos hx, nextLine]
      simp only [lineEnd_ypos, lineEnd_height]
      rw [if_pos hy]
    · refine .inr (.inl ⟨hx, hy, ?_⟩)
      rw [advance, if_pos hx, nextLine]
      simp only [lineEnd_ypos, lineEnd_height]
      rw [if_neg hy]
  · exact .inl ⟨hx, if_neg hx⟩

/-! ### The accumulator -/

/-- A slot the search finds is populated and holds the colour. -/
theorem slotOf_some {rgb : Rgb} {s : State} {k : Fin 4} (h : slotOf rgb s = some k) :
    k.val < s.palcnt.val ∧ (s.ps[k]).key = rgb := by
  simpa using List.find?_some h

/-- The search fails exactly when no populated slot holds the colour. -/
theorem slotOf_none {rgb : Rgb} {s : State} :
    slotOf rgb s = none ↔ ∀ k : Fin 4, k.val < s.palcnt.val → (s.ps[k]).key ≠ rgb := by
  simp only [slotOf, List.find?_eq_none, Bool.and_eq_true, decide_eq_true_eq, beq_iff_eq, not_and]
  refine ⟨fun h k => h k ?_, fun h k _ => h k⟩
  revert k
  decide

/-- The four cases of `accumulate` (R113): known colour, new colour, first overflow, later overflow. -/
theorem accumulate_cases (rgb : Rgb) (s : State) :
    (∃ k, slotOf rgb s = some k ∧ accumulate rgb s = (BitVec.ofNat 4 k.val, s)) ∨
    (slotOf rgb s = none ∧ s.palcnt.val < 4 ∧
      accumulate rgb s = (BitVec.ofNat 4 s.palcnt.val, allocate rgb s)) ∨
    (slotOf rgb s = none ∧ s.palcnt.val = 4 ∧ s.ovfl = false ∧
      accumulate rgb s = (0, appendEvent .paletteOverflow rgb (markOverflow s))) ∨
    (slotOf rgb s = none ∧ s.palcnt.val = 4 ∧ s.ovfl = true ∧ accumulate rgb s = (0, s)) := by
  cases hk : slotOf rgb s with
  | some k => exact .inl ⟨k, rfl, by simp [accumulate, hk]⟩
  | none =>
    by_cases h4 : s.palcnt.val < 4
    · exact .inr (.inl ⟨rfl, h4, by simp [accumulate, hk, h4]⟩)
    · have h4' : s.palcnt.val = 4 := by omega
      cases ho : s.ovfl
      · exact .inr (.inr (.inl ⟨rfl, h4', rfl, by simp [accumulate, hk, h4', reportOverflow, ho]⟩))
      · exact .inr (.inr (.inr ⟨rfl, h4', rfl, by simp [accumulate, hk, h4', reportOverflow, ho]⟩))

/-- `populate` below four slots: the slot is written, the others stay, one more is populated. -/
theorem populate_below {key : Rgb} {hw : Byte} {s : State} (h : s.palcnt.val < 4) :
    populate key hw s =
      { s with ps := s.ps.set s.palcnt.val ⟨key, hw⟩ h, palcnt := Fin.ofNat 5 (s.palcnt.val + 1) } := by
  simp [populate, h]

theorem populate_palcnt {key : Rgb} {hw : Byte} {s : State} (h : s.palcnt.val < 4) :
    (populate key hw s).palcnt.val = s.palcnt.val + 1 := by
  simp only [populate_below h, Fin.val_ofNat]
  omega

/-- The slots after an allocation, whether or not the catalog holds the colour (R113). -/
theorem allocate_slots (rgb : Rgb) (s : State) :
    allocate rgb s =
      match catLookup s rgb with
      | some val => populate rgb val s
      | none => reportUnreachable rgb (populate rgb 0 s) := rfl

/-- `sat16(v + 1)` (R7). -/
theorem satIncr_toNat (v : Half) : (satIncr v).toNat = min (v.toNat + 1) 0xFFFF := by
  simp only [satIncr, BitVec.toNat_ofNat]
  omega

/-- A saturating count is never 0 after an increment. -/
theorem satIncr_ne_zero (v : Half) : satIncr v ≠ 0 := by
  intro h
  have := congrArg BitVec.toNat h
  rw [satIncr_toNat] at this
  simp at this

end Sys2Proof.Machine
end

