-- ==== Sys2Proof/Laws/Catalog.lean ====
section
/-! SUPPORT. The form of the catalog, entry `e` valid exactly when `e < CATPTR` (R27): the reset state has it
and both catalog operations keep it. -/

namespace Sys2Proof.Machine

/-- The form of the catalog storage. -/
def CatalogForm (s : State) : Prop := ∀ e : Fin 256, (s.cat[e]).valid = decide (e.val < s.catptr.val)

theorem reset_catalogForm : CatalogForm State.reset := by
  intro e
  simp [State.reset]

theorem clearCatalog_catalogForm (s : State) : CatalogForm (clearCatalog s) := by
  intro e
  simp

theorem writeEntry_below {key : Rgb} {val : Byte} {s : State} (h : s.catptr.val < 256) :
    writeEntry key val s =
      { s with cat := s.cat.set s.catptr.val ⟨true, key, val⟩ h, catptr := Fin.ofNat 257 (s.catptr.val + 1) } := by
  simp [writeEntry, h]

theorem writeEntry_catalogForm {key : Rgb} {val : Byte} {s : State} (hs : CatalogForm s) :
    CatalogForm (writeEntry key val s) := by
  by_cases h : s.catptr.val < 256
  · intro e
    have he := hs e
    simp only [Fin.getElem_fin] at he
    simp only [writeEntry_below h, Fin.getElem_fin, Vector.getElem_set, Fin.val_ofNat]
    rw [Nat.mod_eq_of_lt (by omega)]
    split
    · simp; omega
    · rw [he]; congr 1; simp only [eq_iff_iff]; omega
  · intro e
    have he := hs e
    simpa [writeEntry, h] using he

end Sys2Proof.Machine
end

