-- ==== Sys2Proof/Laws/Decode.lean ====
section
/-! SUPPORT. Words and fields as numbers: with these a fact about an encoding is linear arithmetic. -/

namespace Sys2Proof

/-! ### Fields of a word (R60, R61) -/

theorem opField_toNat (w : Word) : (opField w).toNat = w.toNat / 2 ^ 24 := by
  have := w.isLt
  simp only [opField, BitVec.extractLsb'_toNat, Nat.shiftRight_eq_div_pow]
  omega

theorem payload_toNat (w : Word) : (payload w).toNat = w.toNat % 2 ^ 24 := by
  simp [payload, BitVec.extractLsb'_toNat]

theorem regField_toNat (w : Word) : (regField w).toNat = w.toNat / 2 ^ 16 % 2 ^ 8 := by
  simp [regField, BitVec.extractLsb'_toNat, Nat.shiftRight_eq_div_pow]

theorem valField_toNat (w : Word) : (valField w).toNat = w.toNat % 2 ^ 16 := by
  simp [valField, BitVec.extractLsb'_toNat]

theorem greyField_toNat (w : Word) : (greyField w).toNat = w.toNat % 2 ^ 8 := by
  simp [greyField, BitVec.extractLsb'_toNat]

theorem indexField_toNat (w : Word) : (indexField w).toNat = w.toNat % 2 ^ 4 := by
  simp [indexField, BitVec.extractLsb'_toNat]

/-- The reserved field of `PXG`, `w[23:8]` (R66). -/
theorem greyReserved_toNat (w : Word) : (w.extractLsb' 8 16).toNat = w.toNat / 2 ^ 8 % 2 ^ 16 := by
  simp [BitVec.extractLsb'_toNat, Nat.shiftRight_eq_div_pow]

/-- The reserved field of `PXI`, `w[23:4]` (R66). -/
theorem indexReserved_toNat (w : Word) : (w.extractLsb' 4 20).toNat = w.toNat / 2 ^ 4 % 2 ^ 20 := by
  simp [BitVec.extractLsb'_toNat, Nat.shiftRight_eq_div_pow]

/-! ### Words of a command (R61, R62) -/

/-- `{a, b}` as a number. -/
theorem toNat_concat {m n : Nat} (a : BitVec m) (b : BitVec n) : (a ++ b).toNat = a.toNat * 2 ^ n + b.toNat := by
  rw [BitVec.toNat_append, ← Nat.shiftLeft_add_eq_or_of_lt b.isLt, Nat.shiftLeft_eq]

/-- The word of a command as a number (R60). -/
theorem encode_toNat (i : Instr) : (encode i).toNat = (opcodeOf i).toNat * 2 ^ 24 + (payloadOf i).toNat :=
  toNat_concat _ _

theorem payloadOf_wr_toNat (r : Reg) (v : Half) :
    (payloadOf (.wr r v)).toNat = r.number.toNat * 2 ^ 16 + v.toNat :=
  toNat_concat _ _

theorem payloadOf_rd_toNat (r : Reg) : (payloadOf (.rd r)).toNat = r.number.toNat * 2 ^ 16 :=
  (toNat_concat r.number (0 : BitVec 16)).trans (by simp)

theorem payloadOf_pxg_toNat (i : Byte) : (payloadOf (.pxg i)).toNat = i.toNat :=
  (toNat_concat (0 : BitVec 16) i).trans (by simp)

theorem payloadOf_pxi_toNat (idx : Index) : (payloadOf (.pxi idx)).toNat = idx.toNat :=
  (toNat_concat (0 : BitVec 20) idx).trans (by simp)

@[simp] theorem opField_encode (i : Instr) : opField (encode i) = opcodeOf i := by
  have := (payloadOf i).isLt
  apply BitVec.eq_of_toNat_eq
  rw [opField_toNat, encode_toNat]
  omega

@[simp] theorem payload_encode (i : Instr) : payload (encode i) = payloadOf i := by
  have := (payloadOf i).isLt
  apply BitVec.eq_of_toNat_eq
  rw [payload_toNat, encode_toNat]
  omega

/-- Two words with the same opcode and payload are equal. -/
theorem word_ext {v w : Word} (hop : opField v = opField w) (hp : payload v = payload w) : v = w := by
  have hop := congrArg BitVec.toNat hop
  have hp := congrArg BitVec.toNat hp
  rw [opField_toNat, opField_toNat] at hop
  rw [payload_toNat, payload_toNat] at hp
  apply BitVec.eq_of_toNat_eq
  omega

@[simp] theorem regField_encode_wr (r : Reg) (v : Half) : regField (encode (.wr r v)) = r.number := by
  have := v.isLt
  have := r.number.isLt
  apply BitVec.eq_of_toNat_eq
  rw [regField_toNat, encode_toNat, payloadOf_wr_toNat]
  omega

@[simp] theorem valField_encode_wr (r : Reg) (v : Half) : valField (encode (.wr r v)) = v := by
  have := v.isLt
  apply BitVec.eq_of_toNat_eq
  rw [valField_toNat, encode_toNat, payloadOf_wr_toNat]
  omega

@[simp] theorem regField_encode_rd (r : Reg) : regField (encode (.rd r)) = r.number := by
  have := r.number.isLt
  apply BitVec.eq_of_toNat_eq
  rw [regField_toNat, encode_toNat, payloadOf_rd_toNat]
  omega

@[simp] theorem valField_encode_rd (r : Reg) : valField (encode (.rd r)) = 0 := by
  apply BitVec.eq_of_toNat_eq
  rw [valField_toNat, encode_toNat, payloadOf_rd_toNat]
  simp
  omega

/-! ### The decoder by opcode (R62, R65) -/

theorem decode_nop {w : Word} (h : opField w = 0x00) : decode w = decodeZ w .nop := by simp [decode, h]
theorem decode_srst {w : Word} (h : opField w = 0x01) : decode w = decodeZ w .srst := by simp [decode, h]
theorem decode_wr {w : Word} (h : opField w = 0x02) : decode w = decodeWr w := by simp [decode, h]
theorem decode_rd {w : Word} (h : opField w = 0x03) : decode w = decodeRd w := by simp [decode, h]
theorem decode_catclr {w : Word} (h : opField w = 0x10) : decode w = decodeZ w .catclr := by simp [decode, h]
theorem decode_catk {w : Word} (h : opField w = 0x11) : decode w = .legal (.catk (payload w)) := by simp [decode, h]
theorem decode_catlock {w : Word} (h : opField w = 0x12) : decode w = decodeZ w .catlock := by simp [decode, h]
theorem decode_start {w : Word} (h : opField w = 0x20) : decode w = decodeZ w .start := by simp [decode, h]
theorem decode_fend {w : Word} (h : opField w = 0x21) : decode w = decodeZ w .fend := by simp [decode, h]
theorem decode_pxg {w : Word} (h : opField w = 0x30) : decode w = decodePxg w := by simp [decode, h]
theorem decode_pxc {w : Word} (h : opField w = 0x31) : decode w = .legal (.pxc (payload w)) := by simp [decode, h]
theorem decode_pxi {w : Word} (h : opField w = 0x32) : decode w = decodePxi w := by simp [decode, h]

/-- The opcodes of R62. -/
def definedOpcodes : List (BitVec 8) :=
  [0x00, 0x01, 0x02, 0x03, 0x10, 0x11, 0x12, 0x20, 0x21, 0x30, 0x31, 0x32]

theorem decode_reserved {w : Word} (h : opField w ∉ definedOpcodes) : decode w = .illegal .reservedOpcode := by
  simp only [definedOpcodes, List.mem_cons, List.not_mem_nil, or_false, not_or] at h
  obtain ⟨h0, h1, h2, h3, h4, h5, h6, h7, h8, h9, h10, h11⟩ := h
  rw [decode, if_neg h0, if_neg h1, if_neg h2, if_neg h3, if_neg h4, if_neg h5, if_neg h6, if_neg h7, if_neg h8,
    if_neg h9, if_neg h10, if_neg h11]

/-! ### Register numbers (R32) -/

/-- Looking a register's number up gives the register: the numbers are distinct. -/
@[simp] theorem regOfNumber_number (r : Reg) : regOfNumber r.number = some r := by
  cases r <;> decide

/-- A register found by number has that number. -/
theorem number_of_regOfNumber {n : BitVec 8} {r : Reg} (h : regOfNumber n = some r) : r.number = n := by
  simpa using List.find?_some h

/-- The list of registers is complete, so a number is defined exactly when some register has it. -/
theorem regOfNumber_eq_none {n : BitVec 8} : regOfNumber n = none ↔ ∀ r : Reg, r.number ≠ n := by
  simp only [regOfNumber, List.find?_eq_none, beq_iff_eq]
  exact ⟨fun h r => h r (by cases r <;> decide), fun h r _ => h r⟩

end Sys2Proof
end

