-- ==== Sys2Proof/Laws/Exec.lean ====
section
/-! SUPPORT. Everything a command can do, said once: `Effect s i t` lists the ways command `i` takes `s` to
`t`, and `exec_effect` says there is no other. -/

namespace Sys2Proof.Machine

/-- The causes a command can raise: all but `INPUT_SIZE_MISMATCH` (R154). -/
def raisable : List Cause := [.malformedInput, .missingReference, .illegalCommand, .protocol, .badConfig, .catalogFull]

/-- The ways a command takes one state to another. -/
inductive Effect (s : State) : Instr → State → Prop
  | nothing (i : Instr) : Effect s i s
  | fault (i : Instr) (c : Cause) : s.runState ≠ .fault → c ∈ raisable → Effect s i (raise c (encode i) s)
  | reset : Effect s .srst (resetKeepingStreams s)
  | write (r : Reg) (v : Half) : s.runState = .idle → r.writable = true → Effect s (.wr r v) (regWrite r v s)
  | read (r : Reg) : Effect s (.rd r) { s with rsp := s.rsp ++ [(regRead s r).setWidth 32] }
  | clear : s.runState = .idle → s.catlock = false → Effect s .catclr (clearCatalog s)
  | append (rgb : Rgb) : s.runState = .idle → s.catlock = false → s.catptr.val < 256 →
      Effect s (.catk rgb) (writeEntry rgb (s.catval.extractLsb' 0 8) s)
  | lock : s.runState = .idle → 0 < s.catptr.val → Effect s .catlock { s with catlock := true }
  | begin : s.runState = .idle → reservedConfig s.ctrl = false → s.width ≠ 0 → s.height ≠ 0 →
      s.width.toNat % ppb s.ctrl = 0 → (adaptive s.ctrl = true → s.catlock = true) → Effect s .start (beginFrame s)
  | trail (i : Instr) : s.runState = .idle → Effect s i (markTrail s)
  | grey (i : Byte) : s.runState = .run → acceptsGrey (modeOf s.ctrl) = true →
      Effect s (.pxg i) (packAdvance (greyIndex i s) s)
  | color (rgb : Rgb) : s.runState = .run → acceptsColor (modeOf s.ctrl) = true →
      Effect s (.pxc rgb) (packAdvance (accumulate rgb s).1 (accumulate rgb s).2)
  | index (idx : Index) : s.runState = .run → acceptsIndex (modeOf s.ctrl) = true → idx.toNat < 2 ^ bpp s.ctrl →
      Effect s (.pxi idx) (packAdvance idx s)

theorem effect_pixelFrame {s : State} {i : Instr} {b : Bool} {act : State → State}
    (h : s.runState = .run → b = true → Effect s i (act s)) : Effect s i (pixelFrame (encode i) b act s) := by
  unfold pixelFrame
  split
  case h_1 => exact .nothing i
  case h_2 hs => exact .trail i hs
  case h_3 hs =>
    split
    · exact h hs ‹_›
    · exact .fault i .protocol (by simp [hs]) (by decide)

theorem effect_idleOnly {s : State} {i : Instr} {act : State → State}
    (h : s.runState = .idle → Effect s i (act s)) : Effect s i (idleOnly (encode i) act s) := by
  unfold idleOnly
  split
  case h_1 => exact .nothing i
  case h_2 hs => exact .fault i .protocol (by simp [hs]) (by decide)
  case h_3 hs => exact h hs

/-- A command's next state is one of its listed effects. -/
theorem exec_effect {i : Instr} {s t : State} (h : exec i s = .next t) : Effect s i t := by
  have fault {i : Instr} (c : Cause) (hs : s.runState = .idle) (hc : c ∈ raisable) :
      Effect s i (raise c (encode i) s) := .fault i c (by simp [hs]) hc
  cases i <;>
    simp only [exec, execNop, execSrst, execWr, execRd, execCatclr, execCatk, execCatlock, execStart, execFend,
      execPxg, execPxc, execPxi, Host.Outcome.next.injEq] at h <;> subst h
  case nop => exact .nothing _
  case srst => exact .reset
  case wr r v =>
    by_cases hr : r.writable = true
    · rw [if_pos hr]; exact effect_idleOnly fun hs => .write r v hs hr
    · rw [if_neg hr]
      unfold illegalWord
      split
      · exact .nothing _
      · exact .fault _ _ (by simp [*]) (by decide)
      · exact .fault _ _ (by simp [*]) (by decide)
  case rd r => exact .read r
  case catclr =>
    refine effect_idleOnly fun hs => ?_
    split
    · exact fault .protocol hs (by decide)
    · exact .clear hs (by simp_all)
  case catk rgb =>
    refine effect_idleOnly fun hs => ?_
    split
    · exact fault .protocol hs (by decide)
    split
    · exact fault .catalogFull hs (by decide)
    · exact .append rgb hs (by simp_all) (by omega)
  case catlock =>
    refine effect_idleOnly fun hs => ?_
    split
    · exact .nothing _
    split
    · exact fault .missingReference hs (by decide)
    · exact .lock hs (by omega)
  case start =>
    refine effect_idleOnly fun hs => ?_
    split
    · exact fault .badConfig hs (by decide)
    split
    · exact fault .badConfig hs (by decide)
    split
    · exact fault .badConfig hs (by decide)
    split
    · exact fault .missingReference hs (by decide)
    · rename_i h1 h2 h3 h4
      rw [not_or] at h2
      exact .begin hs (by simpa using h1) h2.1 h2.2 (by omega) fun ha => by simpa [ha] using h4
  case fend =>
    split
    · exact .nothing _
    · exact .nothing _
    · exact .fault _ _ (by simp [*]) (by decide)
  case pxg i => exact effect_pixelFrame fun hs ha => .grey i hs ha
  case pxc rgb => exact effect_pixelFrame fun hs ha => .color rgb hs ha
  case pxi idx =>
    refine effect_pixelFrame fun hs ha => ?_
    split
    · exact .fault _ _ (by simp [hs]) (by decide)
    · exact .index idx hs ha (by omega)

end Sys2Proof.Machine
end

