-- ==== Sys2Proof/Laws/Masks.lean ====
section
/-! SUPPORT. The masks of the opcode map (R62) as conditions on the fields of a word. -/

namespace Sys2Proof

/-- The opcode byte of a word under the mask of R62's rows without reserved bits. -/
theorem mask_opcode (w : Word) (op : BitVec 8) : w &&& 0xFF000000 = op ++ (0 : BitVec 24) ↔ opField w = op := by
  constructor
  · intro h
    apply BitVec.eq_of_getLsbD_eq
    intro k hk
    have := congrArg (fun v : Word => v.getLsbD (24 + k)) h
    rw [show (op ++ (0 : BitVec 24)).getLsbD (24 + k) = _ from BitVec.getLsbD_append] at this
    simp only [opField, BitVec.getLsbD_extractLsb', hk, decide_true, Bool.true_and]
    interval_cases k <;> simpa using this
  · intro h
    apply BitVec.eq_of_getLsbD_eq
    intro k hk
    rw [show BitVec.getLsbD (op ++ (0 : BitVec 24) : Word) k = _ from BitVec.getLsbD_append]
    have h2 := fun j => congrArg (fun v : BitVec 8 => v.getLsbD j) h
    simp only [opField, BitVec.getLsbD_extractLsb'] at h2
    simp only [← h2]
    interval_cases k <;> simp

/-- Two masks with no bit in common select independently. -/
theorem and_or_eq_iff {w m lo p : Word} (hlo : lo &&& m = 0) (hp : p &&& m = p) :
    w &&& (m ||| lo) = p ↔ w &&& m = p ∧ w &&& lo = 0 := by
  have bit {u v : Word} : u = v ↔ ∀ k, u.getLsbD k = v.getLsbD k :=
    ⟨fun h k => by rw [h], fun h => BitVec.eq_of_getLsbD_eq fun k _ => h k⟩
  have zero (k : Nat) : BitVec.getLsbD (0 : Word) k = false := BitVec.getLsbD_zero
  simp only [bit, BitVec.getLsbD_and, BitVec.getLsbD_or, zero] at hlo hp ⊢
  rw [← forall_and]
  refine forall_congr' fun k => ?_
  have h1 := hlo k
  have h2 := hp k
  revert h1 h2
  cases w.getLsbD k <;> cases m.getLsbD k <;> cases lo.getLsbD k <;> cases p.getLsbD k <;> decide

/-- A mask of the opcode and some reserved payload bits: the opcode, and those bits zero (R66). -/
theorem mask_opcode_reserved (w lo : Word) (op : BitVec 8) (hlo : lo &&& 0xFF000000 = 0) :
    w &&& (0xFF000000 ||| lo) = op ++ (0 : BitVec 24) ↔ opField w = op ∧ w &&& lo = 0 := by
  rw [← mask_opcode]
  refine and_or_eq_iff hlo ((mask_opcode _ op).mpr ?_)
  apply BitVec.eq_of_toNat_eq
  rw [opField_toNat, toNat_concat]
  simp

/-- The reserved bits of the four masks of R62, as fields. -/
theorem payload_mask (w : Word) : w &&& 0x00FFFFFF = 0 ↔ payload w = 0 := by
  constructor <;> intro h <;> apply BitVec.eq_of_getLsbD_eq <;> intro k hk
  · have := congrArg (fun v : Word => v.getLsbD k) h
    simp only [payload, BitVec.getLsbD_extractLsb', hk, decide_true, Bool.true_and]
    interval_cases k <;> simpa using this
  · have := congrArg (fun v : BitVec 24 => v.getLsbD k) h
    simp only [payload, BitVec.getLsbD_extractLsb'] at this
    interval_cases k <;> simp at this ⊢ <;> assumption

theorem valField_mask (w : Word) : w &&& 0x0000FFFF = 0 ↔ valField w = 0 := by
  constructor <;> intro h <;> apply BitVec.eq_of_getLsbD_eq <;> intro k hk
  · have := congrArg (fun v : Word => v.getLsbD k) h
    simp only [valField, BitVec.getLsbD_extractLsb', hk, decide_true, Bool.true_and]
    interval_cases k <;> simpa using this
  · have := congrArg (fun v : BitVec 16 => v.getLsbD k) h
    simp only [valField, BitVec.getLsbD_extractLsb'] at this
    interval_cases k <;> simp at this ⊢ <;> assumption

theorem greyReserved_mask (w : Word) : w &&& 0x00FFFF00 = 0 ↔ w.extractLsb' 8 16 = 0 := by
  constructor <;> intro h <;> apply BitVec.eq_of_getLsbD_eq <;> intro k hk
  · have := congrArg (fun v : Word => v.getLsbD (8 + k)) h
    simp only [BitVec.getLsbD_extractLsb', hk, decide_true, Bool.true_and]
    interval_cases k <;> simpa using this
  · have := congrArg (fun v : BitVec 16 => v.getLsbD (k - 8)) h
    simp only [BitVec.getLsbD_extractLsb'] at this
    interval_cases k <;> simp at this ⊢ <;> assumption

theorem indexReserved_mask (w : Word) : w &&& 0x00FFFFF0 = 0 ↔ w.extractLsb' 4 20 = 0 := by
  constructor <;> intro h <;> apply BitVec.eq_of_getLsbD_eq <;> intro k hk
  · have := congrArg (fun v : Word => v.getLsbD (4 + k)) h
    simp only [BitVec.getLsbD_extractLsb', hk, decide_true, Bool.true_and]
    interval_cases k <;> simpa using this
  · have := congrArg (fun v : BitVec 20 => v.getLsbD (k - 4)) h
    simp only [BitVec.getLsbD_extractLsb'] at this
    interval_cases k <;> simp at this ⊢ <;> assumption

end Sys2Proof
end

