-- ==== Sys2Proof/Laws/PerInstr.lean ====
section
/-! SUPPORT. The family `Fields`: the encoding of a command holds its opcode and its payload, and nothing of
either is lost (R60, R61). -/

namespace Sys2Proof.Laws.Fields

/-- The opcode and the payload read back from the word of a command. -/
def Statement (i : Instr) : Prop := opField (encode i) = opcodeOf i ∧ payload (encode i) = payloadOf i

theorem nop : Statement .nop := ⟨opField_encode _, payload_encode _⟩
theorem srst : Statement .srst := ⟨opField_encode _, payload_encode _⟩
theorem wr (reg : Reg) (val : Half) : Statement (.wr reg val) := ⟨opField_encode _, payload_encode _⟩
theorem rd (reg : Reg) : Statement (.rd reg) := ⟨opField_encode _, payload_encode _⟩
theorem catclr : Statement .catclr := ⟨opField_encode _, payload_encode _⟩
theorem catk (rgb : Rgb) : Statement (.catk rgb) := ⟨opField_encode _, payload_encode _⟩
theorem catlock : Statement .catlock := ⟨opField_encode _, payload_encode _⟩
theorem start : Statement .start := ⟨opField_encode _, payload_encode _⟩
theorem fend : Statement .fend := ⟨opField_encode _, payload_encode _⟩
theorem pxg (i : Byte) : Statement (.pxg i) := ⟨opField_encode _, payload_encode _⟩
theorem pxc (rgb : Rgb) : Statement (.pxc rgb) := ⟨opField_encode _, payload_encode _⟩
theorem pxi (idx : Index) : Statement (.pxi idx) := ⟨opField_encode _, payload_encode _⟩

end Sys2Proof.Laws.Fields
end

