-- ==== Sys2Proof/Laws/Pixel.lean ====
section
/-! SUPPORT. Modes, indices and lookups as numbers and as list facts, for the statements about pixels. -/

namespace Sys2Proof.Machine

/-! ### Which pixel a mode accepts (R110) -/

theorem acceptsGrey_eq (s : State) : acceptsGrey (modeOf s.ctrl) = decide (s.modeNum ≤ 3) := by
  rw [modeOf_eq]
  have := modeNum_lt s
  interval_cases s.modeNum <;> decide

theorem acceptsColor_eq (s : State) : acceptsColor (modeOf s.ctrl) = decide (s.modeNum = 4 ∨ s.modeNum = 5) := by
  rw [modeOf_eq]
  have := modeNum_lt s
  interval_cases s.modeNum <;> decide

theorem acceptsIndex_eq (s : State) : acceptsIndex (modeOf s.ctrl) = decide (s.modeNum = 6) := by
  rw [modeOf_eq]
  have := modeNum_lt s
  interval_cases s.modeNum <;> decide

/-! ### Indices fit in `bpp()` bits -/

theorem greyIndex_lt {s : State} (i : Byte) (h : acceptsGrey (modeOf s.ctrl) = true) :
    (greyIndex i s).toNat < 2 ^ bpp s.ctrl := by
  have := i.isLt
  have hd := (dither i s.xpos s.ypos).isLt
  unfold greyIndex bpp
  cases hm : modeOf s.ctrl <;> simp_all [levelOf, acceptsGrey] <;> omega

theorem adaptive_of_acceptsColor {s : State} (h : acceptsColor (modeOf s.ctrl) = true) : adaptive s.ctrl = true := by
  unfold adaptive
  cases hm : modeOf s.ctrl <;> simp_all [acceptsColor]

theorem accumulate_index_lt {s : State} (rgb : Rgb) (h : acceptsColor (modeOf s.ctrl) = true) :
    (accumulate rgb s).1.toNat < 2 ^ bpp s.ctrl := by
  have hb : bpp s.ctrl = 2 := by unfold bpp; cases hm : modeOf s.ctrl <;> simp_all [acceptsColor]
  rw [hb]
  rcases accumulate_cases rgb s with ⟨k, _, e⟩ | ⟨_, _, e⟩ | ⟨_, _, _, e⟩ | ⟨_, _, _, e⟩ <;> rw [e] <;> simp <;> omega

/-- The byte under construction after one more index, as a number (R130). -/
theorem packed_toNat (s : State) (idx : Index) :
    ((s.pacc <<< bpp s.ctrl) ||| idx.setWidth 8).toNat = (s.pacc.toNat * 2 ^ bpp s.ctrl ||| idx.toNat) % 256 := by
  rw [BitVec.toNat_or, BitVec.toNat_shiftLeft, BitVec.toNat_setWidth, Nat.shiftLeft_eq, Nat.or_mod_two_pow (n := 8)]

/-! ### The loaded entries (R94) -/

theorem loaded_length (s : State) : (loaded s).length = s.catptr.val := by
  have := s.catptr.isLt
  simp [loaded]
  omega

theorem loaded_getElem (s : State) (e : Fin 256) (h : e.val < s.catptr.val) :
    (loaded s)[e.val]'(by rw [loaded_length]; exact h) = s.cat[e] := by
  simp [loaded]

/-- A lookup depends on `CAT` and `CATPTR` alone (R94). -/
theorem catLookup_congr {s t : State} (hc : t.cat = s.cat) (hp : t.catptr = s.catptr) (rgb : Rgb) :
    catLookup t rgb = catLookup s rgb := by
  simp [catLookup, loaded, hc, hp]

/-! ### The dither table as a function of numbers (R125) -/

theorem dither_eq (i : Byte) (x y : Half) :
    dither i x y =
      Config.ditherLut.level (Fin.ofNat 16 (i.toNat / 16)) (Fin.ofNat 4 x.toNat) (Fin.ofNat 4 y.toNat) := by
  have := i.isLt
  simp [dither, ditherWith, Nat.shiftRight_eq_div_pow]

end Sys2Proof.Machine
end

