-- ==== Sys2Proof/Tests/Slice0.lean ====
section
/-! SUPPORT. Tests. Expected values come from the spec: the encodings of 30_encoding.md and the vectors V-…
of 95_test_vectors.md. The theorems `test_witness_…` show a state and operands that meet the hypotheses of
the statement they are named after, clause by clause. -/

namespace Sys2Proof.Tests

open Sys2Proof Sys2Proof.Machine

/-! ### Well-formedness -/

theorem test_wellFormed_wr : ¬ Instr.WellFormed (.wr .status 0) ∧ Instr.WellFormed (.wr .catval 0xFFFF) := by decide
theorem test_wellFormed_readOnly :
    (allRegs.filter fun r => !Instr.wellFormed (.wr r 0)) = [.status, .fcode, .xpos, .ypos, .catptr, .ovfcnt, .unrcnt] := by
  decide

/-! ### Decoding: words written out from the formats of R61 and the rows of R62 -/

theorem test_decode_nop : decode 0b00000000000000000000000000000000 = .legal .nop := by decide
theorem test_decode_srst : decode 0b00000001000000000000000000000000 = .legal .srst := by decide
theorem test_decode_wr : decode 0b00000010000000010000000000001000 = .legal (.wr .width 8) := by decide
theorem test_decode_rd : decode 0b00000011000010000000000000000000 = .legal (.rd .status) := by decide
theorem test_decode_catclr : decode 0b00010000000000000000000000000000 = .legal .catclr := by decide
theorem test_decode_catk : decode 0b00010001111111110000000000000001 = .legal (.catk 0xFF0001) := by decide
theorem test_decode_catlock : decode 0b00010010000000000000000000000000 = .legal .catlock := by decide
theorem test_decode_start : decode 0b00100000000000000000000000000000 = .legal .start := by decide
theorem test_decode_fend : decode 0b00100001000000000000000000000000 = .legal .fend := by decide
theorem test_decode_pxg : decode 0b00110000000000000000000010000001 = .legal (.pxg 0x81) := by decide
theorem test_decode_pxc : decode 0b00110001000100100011010001010110 = .legal (.pxc 0x123456) := by decide
theorem test_decode_pxi : decode 0b00110010000000000000000000001001 = .legal (.pxi 9) := by decide

/-- V-C5 to V-C9, V-G7: each reason to refuse a word. -/
theorem test_decode_illegal :
    decode 0x02080001 = .illegal .readOnlyRegister ∧ decode 0x03040000 = .illegal .undefinedRegister ∧
      decode 0x00000001 = .illegal .reservedBits ∧ decode 0x30000100 = .illegal .reservedBits ∧
      decode 0xFFFFFFFF = .illegal .reservedOpcode ∧ decode 0x40000000 = .illegal .reservedOpcode := by decide

/-- The words of the vectors V-C2, CAT5, V-F1, V-P3. -/
theorem test_encode :
    encode (.wr .ctrl 0xFFFF) = 0x0200FFFF ∧ encode (.rd .catval) = 0x03030000 ∧
      encode (.catk 0x00FF00) = 0x1100FF00 ∧ encode .catlock = 0x12000000 ∧ encode .start = 0x20000000 ∧
      encode (.pxi 0xA) = 0x3200000A := by decide

theorem test_decodeTableWord : decodeTableWord 32 0x3200000A = some (.pxi 0xA) ∧ decodeTableWord 32 0x02080001 = none := by
  decide

/-! ### Small states -/

/-- What a result shows of its next state. -/
def seen {α : Type} (r : Result) (f : State → α) : Option α :=
  match r with
  | .next t => some (f t)
  | .fault _ | .refused _ => none

/-- What is seen of a result holds of a next state it is. -/
theorem of_seen {α : Type} {r : Result} {f : State → α} {v : α} (h : seen r f = some v) : ∃ t, r = .next t ∧ f t = v := by
  cases r with
  | next t => exact ⟨t, rfl, Option.some.inj h⟩
  | fault e => cases h
  | refused e => cases h

/-- A run of `n` steps that is seen to stay in `RUN` and then to complete. -/
theorem completes {n : Nat} {s : State} (hrun : ∀ m, m < n → seen (steps m s) State.runState = some .run)
    (hend : seen (steps n s) (fun t => (t.runState, t.done)) = some (.idle, true)) :
    ∃ t, RunsFor n s ∧ steps n s = .next t ∧ FrameCompleted t := by
  obtain ⟨t, ht, hv⟩ := of_seen hend
  exact ⟨t, fun m hm => of_seen (hrun m hm), ht, congrArg Prod.fst hv, congrArg Prod.snd hv⟩

/-- `CFG m, w, h` of R71 after reset. -/
def config (m w h : Half) : State := { State.reset with ctrl := m, width := w, height := h }

/-- A frame just started. -/
def frame (m w h : Half) : State := { config m w h with runState := .run }

/-- A faulted block. -/
def faulted : State := { State.reset with runState := .fault, fcode := 4 }

/-- CAT5 of 95_test_vectors.md, before and after the lock. -/
def cat5open (s : State) : State :=
  { writeEntry 0x0000FF 0x86 (writeEntry 0x00FF00 0xC6 (writeEntry 0xFF0000 0x34
      (writeEntry 0xFFFFFF 0x0E (writeEntry 0x000000 0x00 s)))) with catval := 0x86 }
def cat5 (s : State) : State := { cat5open s with catlock := true }

/-- The accumulator of V-Q3 after four pixels: red, green, blue, white. -/
def fourColours (s : State) : State :=
  { cat5 s with palcnt := 4, ps := ⟨#[⟨0xFF0000, 0x34⟩, ⟨0x00FF00, 0xC6⟩, ⟨0x0000FF, 0x86⟩, ⟨0xFFFFFF, 0x0E⟩], rfl⟩ }

/-- A state whose host pushes one word. -/
def pushing (w : Word) (s : State) : State := { s with host := [.word w] }

/-! ### One step, from the vectors -/

/-- V-C1. -/
theorem test_nop : step (pushing 0x00000000 (frame 1 4 2)) = .next (frame 1 4 2) := rfl

/-- V-C4, P5: the registers are cleared, the streams stay. -/
theorem test_srst :
    seen (exec .srst { faulted with width := 8, pixout := [0xFF] }) (fun t => (t.runState, t.width, t.fcode, t.pixout)) =
      some (.idle, 0, 0, [0xFF]) := by decide +kernel

/-- V-C2. -/
theorem test_wr_masks :
    seen (exec (.wr .ctrl 0xFFFF) State.reset) State.ctrl = some 0x0037 ∧
      seen (exec (.wr .catval 0x1234) State.reset) State.catval = some 0x0034 := by decide +kernel

/-- V-F8: `WR` in `RUN` is `PROTOCOL`, `WIDTH` stays. -/
theorem test_wr_running :
    seen (exec (.wr .width 8) (frame 1 4 1)) (fun t => (t.fcode, t.width, t.diag)) =
      some (5, 4, [⟨0x05, 0, 0, 0x02010008⟩]) := by decide +kernel

/-- V-Q3: `STATUS` with `DONE`, `CATLOCK`, `OVF`; P4: with `PALCNT` = 4. -/
theorem test_rd_status :
    seen (exec (.rd .status) { State.reset with done := true, catlock := true, ovf := true }) State.rsp = some [0x2C] ∧
      seen (exec (.rd .status) { State.reset with done := true, catlock := true, palcnt := 4 }) State.rsp =
        some [0x40C] := by decide +kernel

/-- V-K5: `CATPTR` = 256 is readable whole. -/
theorem test_rd_catptr : seen (exec (.rd .catptr) { State.reset with catptr := 256 }) State.rsp = some [0x100] := by
  decide +kernel

/-- V-K4. -/
theorem test_catclr : seen (exec .catclr (cat5open State.reset)) (fun t => (t.catptr.val, (t.cat[0]).valid)) = some (0, false) := by
  decide +kernel

/-- V-K3: `CATK` after the lock. -/
theorem test_catk_locked :
    seen (exec (.catk 0) (cat5 State.reset)) (fun t => (t.fcode, t.catptr.val, t.diag)) =
      some (5, 5, [⟨0x05, 0, 0, 0x11000000⟩]) := by decide +kernel

/-- V-K5: the 257th entry, and the 256th. -/
theorem test_catk_full :
    seen (exec (.catk 0x000100) { State.reset with catptr := 256 }) (fun t => (t.fcode, t.diag)) =
        some (7, [⟨0x07, 0, 0, 0x11000100⟩]) ∧
      seen (exec (.catk 0x0000FF) { State.reset with catptr := 255 }) (fun t => (t.catptr.val, t.cat[255])) =
        some (256, ⟨true, 0x0000FF, 0⟩) := by decide +kernel

/-- V-K2, V-K7. -/
theorem test_catlock :
    seen (exec .catlock State.reset) (fun t => (t.fcode, t.catlock)) = some (2, false) ∧
      seen (exec .catlock (cat5 State.reset)) (fun t => (t.runState, t.catlock)) = some (.idle, true) := by
  decide +kernel

/-- V-K6: a duplicate key, the lowest entry wins. -/
theorem test_lookup_duplicate :
    catLookup (writeEntry 0xAABBCC 0x22 (writeEntry 0xAABBCC 0x11 State.reset)) 0xAABBCC = some 0x11 := by decide +kernel

/-- V-K8, under `CAT_MATCH = NEAREST`. -/
theorem test_lookup_nearest :
    lookupWith .nearest (loaded (cat5 State.reset)) 0x123456 = some 0x00 ∧
      lookupWith .nearest (loaded (cat5 State.reset)) 0x808080 = some 0x0E ∧ distance 0x123456 0x000000 = 10424 := by
  decide +kernel

/-- V-F14; V-F2. -/
theorem test_start :
    seen (exec .start (config 1 4 1)) (fun t => (t.runState, t.xpos, t.ypos)) = some (.run, 0, 0) ∧
      seen (exec .start (config 5 8 1)) (fun t => (t.runState, t.fcode)) = some (.fault, 2) := by decide +kernel

/-- V-F1, V-F9, V-F10, V-F11. -/
theorem test_start_badConfig :
    [config 1 6 1, config 1 0 1, config 7 8 1, config 0x36 8 1].map (fun s => seen (exec .start s) State.fcode) =
      [some 6, some 6, some 6, some 6] := by decide +kernel

/-- V-F13; P5. -/
theorem test_fend :
    exec .fend State.reset = .next State.reset ∧
      seen (exec .fend { frame 1 4 2 with xpos := 2, ypos := 1 }) (fun t => (t.runState, t.fcode, t.diag)) =
        some (.fault, 1, [⟨0x01, 1, 2, 0x21000000⟩]) := ⟨rfl, by decide +kernel⟩

/-- V-G2's last pixel: the byte `AF`, the line end, the frame end. -/
theorem test_pxg_last :
    seen (exec (.pxg 0xFF) { frame 1 8 1 with xpos := 7, pcnt := 3, pacc := 0x2B })
        (fun t => (t.pixout, t.xpos, t.ypos, t.runState, t.done)) = some ([0xAF], 0, 1, .idle, true) := by decide +kernel

/-- V-G1, V-G2, V-G3: the indices of direct classification. -/
theorem test_pxg_indices :
    [0x00, 0x7F, 0x80, 0xFF, 0x40, 0xC8, 0x64, 0x81].map (levelOf 128) = [0, 0, 1, 1, 0, 1, 0, 1] ∧
      [0x00, 0x3F, 0x40, 0x7F, 0x80, 0xBF, 0xC0, 0xFF].map (levelOf 64) = [0, 0, 1, 1, 2, 2, 3, 3] ∧
      [0x00, 0x0F, 0x10, 0xFF].map (levelOf 16) = [0, 0, 1, 15] := by decide

/-- V-D5, with `DITHER_LUT_REF`. -/
theorem test_dither_calls :
    ditherWith ditherLutRef 0x58 0 1 = 2 ∧ ditherWith ditherLutRef 0x58 1 1 = 1 ∧ ditherWith ditherLutRef 0x58 0 0 = 1 ∧
      ditherWith ditherLutRef 0x5F 0 1 = 2 ∧ ditherWith ditherLutRef 0x58 4 5 = 2 := by decide

/-- V-D2: the tile rows of bucket 6. -/
theorem test_dither_tile :
    (List.finRange 4).map (fun y => (List.finRange 4).map fun x => ditherLutRef 6 x y) =
      [[1, 2, 1, 2], [2, 1, 2, 1], [1, 2, 1, 2], [2, 1, 2, 1]] := by decide

/-- V-Q3: the fifth colour of a scanline, then one the accumulator holds. -/
theorem test_pxc_overflow :
    seen (exec (.pxc 0x000000) { fourColours (frame 5 8 1) with xpos := 4 })
        (fun t => (t.pacc, t.ovfcnt, t.diag)) = some (0, 1, [⟨0x10, 0, 4, 0x00000000⟩]) ∧
      seen (exec (.pxc 0xFFFFFF) (fourColours (frame 5 8 1))) (fun t => (t.pacc, t.diag)) = some (3, []) := by
  decide +kernel

/-- V-Q5: an unreachable colour. -/
theorem test_pxc_unreachable :
    seen (exec (.pxc 0x123456) (cat5 (frame 5 4 1))) (fun t => (t.unr, t.unrcnt, t.palcnt.val, t.diag)) =
      some (true, 1, 1, [⟨0x11, 0, 0, 0x00123456⟩]) := by decide +kernel

/-- V-P3, its second pixel; V-P4. -/
theorem test_pxi :
    seen (exec (.pxi 5) { frame 0x26 2 1 with xpos := 1, pcnt := 1, pacc := 0x0A }) State.pixout = some [0xA5] ∧
      seen (exec (.pxi 4) (frame 0x16 4 1)) (fun t => (t.fcode, t.pcnt.val, t.diag)) =
        some (5, 0, [⟨0x05, 0, 0, 0x32000004⟩]) := by decide +kernel

/-- V-P5, V-G6: a pixel with no frame. -/
theorem test_pixel_idle : seen (exec (.pxi 1) State.reset) (fun t => (t.trail, t.pixout)) = some (true, []) := by
  decide +kernel

/-- V-C10: dropped in `FAULT`. -/
theorem test_fault_drops : exec (.wr .width 8) faulted = .next faulted := rfl

/-- Priority of R158: an illegal word in `RUN` is `ILLEGAL_COMMAND`. -/
theorem test_illegal_first : seen (step (pushing 0x02080001 (frame 1 4 1))) State.fcode = some 4 := by decide +kernel

/-- A word placed for the next step is the one it runs. -/
theorem test_withFetchWord :
    seen (step (State.reset.withFetchWord 32 0x02010008)) (fun t => (t.width, t.host)) = some (8, []) := by decide +kernel

/-- R180: a word in transfer is lost; the streams are emptied. -/
theorem test_hardware_reset :
    seen (step { frame 1 4 1 with pixout := [1], host := [.reset (some 0x20000000), .word 0] })
        (fun t => (t.runState, t.pixout, t.host)) = some (.idle, [], [.word 0]) := by decide +kernel

/-- R164: the record of P5, the fields from the top bit down. -/
theorem test_diagBits : diagBits ⟨0x01, 1, 2, 0x21000000⟩ = 0x010001000221000000 := by decide

/-! ### Witnesses of hypotheses -/

/-- A frame in `RAW` at 4 bits, 2 x 2, its four pixels about to be pushed. -/
def rawPixels : List Instr := [.pxi 0, .pxi 15, .pxi 5, .pxi 10]
def rawFrame : State := { frame 0x26 2 2 with host := rawPixels.map fun i => .word (encode i) }

theorem test_rawFrame_inv : rawFrame.Inv where
  catalog := ⟨by simp [rawFrame, frame, config, State.reset], by decide⟩
  raster := ⟨by decide, by decide, by decide, by decide⟩
  accumulator := ⟨by decide, by decide, by decide +kernel, by decide, by decide⟩
  status := ⟨by decide, by decide, by decide, by decide, by decide, by decide, by decide⟩

/-- An accumulator with all four slots populated meets its invariant. -/
theorem test_fourColours_ok : AccumulatorOk (fourColours (frame 5 8 1)) where
  distinct := by decide +kernel
  frozen := by decide +kernel
  hardware := by decide +kernel
  unused := by decide +kernel
  overflow := by decide +kernel

theorem test_witness_DecodeOfEncode : ∃ i : Instr, i.WellFormed ∧ i = .wr .catval 0xFFFF := ⟨_, by decide, rfl⟩

theorem test_witness_EncodeOfDecode : decode 0x3200000F = .legal (.pxi 15) := by decide

theorem test_witness_ReservedPayloadBitsAreIllegal :
    (opField 0x00000001 ∈ ([0x00, 0x01, 0x10, 0x12, 0x20, 0x21] : List (BitVec 8)) ∧ (0x00000001 : Word).toNat % 2 ^ 24 ≠ 0) ∧
      (opField 0x03000001 = 0x03 ∧ (0x03000001 : Word).toNat % 2 ^ 16 ≠ 0) ∧
      (opField 0x30000100 = 0x30 ∧ (0x30000100 : Word).toNat / 2 ^ 8 % 2 ^ 16 ≠ 0) ∧
      (opField 0x32800000 = 0x32 ∧ (0x32800000 : Word).toNat / 2 ^ 4 % 2 ^ 20 ≠ 0) ∧ opField 0x11FFFFFF = 0x11 ∧
      opField 0x31FFFFFF = 0x31 ∧
      (opField 0x0203FFFF = 0x02 ∧ regField 0x0203FFFF ∈ ([0x00, 0x01, 0x02, 0x03] : List (BitVec 8))) := by decide

theorem test_witness_StepRunsTheDecodedCommand :
    ∃ (s : State) (w : Word) (rest : List HostEvent) (i : Instr), s.host = .word w :: rest ∧ decode w = .legal i :=
  ⟨pushing 0x3000000F (frame 1 4 1), 0x3000000F, [], .pxg 0x0F, rfl, by decide⟩

theorem test_witness_StepOnAnIllegalWord :
    decode 0x02080001 = .illegal .readOnlyRegister ∧ (pushing 0x02080001 (frame 1 4 1)).host = [.word 0x02080001] ∧
      (frame 1 4 1).runState ≠ .fault ∧ State.reset.runState ≠ .fault ∧ faulted.runState = .fault := by decide

theorem test_witness_IdleStepKeepsTheState : (frame 1 4 1).host = [] := by decide

theorem test_witness_StreamsAreAppendOnly :
    ∃ s t : State, hardResetNext s = false ∧ step s = .next t ∧ s.rsp = [7] ∧ t.rsp = [7, 8] :=
  ⟨{ pushing 0x03010000 (config 1 8 1) with rsp := [7] }, _, rfl, rfl, rfl, by decide +kernel⟩

theorem test_witness_HardwareResetStep :
    ∃ (s : State) (lost : Option Word) (rest : List HostEvent), s.host = .reset lost :: rest ∧ s.runState = .fault :=
  ⟨{ faulted with host := [.reset (some 0x20000000), .word 0] }, _, _, rfl, rfl⟩

theorem test_witness_NopChangesNothing : (pushing 0x00000000 faulted).host = [.word 0x00000000] := by decide

theorem test_witness_WrWritesOneRegister :
    State.reset.runState = .idle ∧ (frame 1 4 1).runState = .run ∧ Reg.writable .catval = true ∧
      Reg.writable .status = false ∧ Reg.writable .unrcnt = false := by decide

theorem test_witness_ReadAfterWriteSeesTheValue :
    State.reset.runState = .idle ∧ ∃ t, exec (.wr .ctrl 0xFFFF) State.reset = .next t ∧ t.ctrl = 0x37 :=
  ⟨rfl, _, rfl, by decide⟩

theorem test_witness_CatclrEmptiesTheCatalog :
    ((cat5open State.reset).runState = .idle ∧ (cat5open State.reset).catlock = false) ∧ (frame 1 4 1).runState = .run ∧
      ((cat5 State.reset).runState = .idle ∧ (cat5 State.reset).catlock = true) := by decide +kernel

theorem test_witness_CatkAppendsOneEntry :
    (State.reset.runState = .idle ∧ State.reset.catlock = false ∧ State.reset.catptr.val < 256) ∧
      ({ State.reset with catptr := 255 } : State).catptr.val < 256 ∧ (frame 1 4 1).runState = .run ∧
      ((cat5 State.reset).runState = .idle ∧ (cat5 State.reset).catlock = true) ∧
      ({ State.reset with catptr := 256 } : State).catptr.val = 256 := by decide +kernel

theorem test_witness_CatlockFreezesTheCatalog :
    ((cat5open State.reset).runState = .idle ∧ 0 < (cat5open State.reset).catptr.val) ∧
      ((cat5 State.reset).runState = .idle ∧ (cat5 State.reset).catlock = true) ∧
      (State.reset.runState = .idle ∧ State.reset.catlock = false ∧ State.reset.catptr.val = 0) ∧
      (frame 1 4 1).runState = .run := by decide +kernel

/-- A miss; and entry 4 of CAT5 as the lowest with blue. -/
theorem test_witness_LookupGivesTheLowestEntry :
    (∀ e : Fin 256, e.val < (cat5 State.reset).catptr.val → ((cat5 State.reset).cat[e]).key ≠ 0x123456) ∧
      ((4 : Fin 256).val < (cat5 State.reset).catptr.val ∧ ((cat5 State.reset).cat[(4 : Fin 256)]).key = 0x0000FF ∧
        ∀ f : Fin 256, f.val < (4 : Fin 256).val → ((cat5 State.reset).cat[f]).key ≠ 0x0000FF) := by decide +kernel

/-- The distances of V-K8's first lookup: entry 0 is the nearest. -/
theorem test_witness_NearestLookupMinimisesTheDistance :
    ∃ d : Fin 256 → Int,
      (∀ e : Fin 256, d e =
        (((0x123456 : Rgb).toNat / 65536 : Nat) - ((cat5 State.reset).cat[e].key.toNat / 65536 : Nat) : Int) ^ 2 +
        (((0x123456 : Rgb).toNat / 256 % 256 : Nat) - ((cat5 State.reset).cat[e].key.toNat / 256 % 256 : Nat) : Int) ^ 2 +
        (((0x123456 : Rgb).toNat % 256 : Nat) - ((cat5 State.reset).cat[e].key.toNat % 256 : Nat) : Int) ^ 2) ∧
      0 < (cat5 State.reset).catptr.val ∧
      (∀ f : Fin 256, f.val < (cat5 State.reset).catptr.val → d 0 ≤ d f) ∧ ∀ f : Fin 256, f.val < 0 → d 0 < d f :=
  ⟨_, fun _ => rfl, by decide +kernel, by decide +kernel, fun f h => absurd h (Nat.not_lt_zero _)⟩

theorem test_witness_LockedCatalogNeverChanges :
    ∃ s t : State, s.catlock = true ∧ resetNext s = false ∧ step s = .next t ∧ t.runState = .fault :=
  ⟨pushing 0x11000000 (cat5 State.reset), _, rfl, by decide, rfl, by decide +kernel⟩

/-- `DIR2` 8 x 1, and `LINE` with CAT5 frozen. -/
theorem test_witness_StartBeginsAFrame :
    StartAccepted (config 1 8 1) ∧ StartAccepted (cat5 (config 5 8 1)) ∧ StartAccepted (config 0x26 2 1) :=
  ⟨⟨by decide, by decide, by decide, by decide, by decide⟩,
    ⟨by decide +kernel, by decide +kernel, by decide +kernel, by decide +kernel, by decide +kernel⟩,
    ⟨by decide, by decide, by decide, by decide, by decide⟩⟩

theorem test_witness_StartChecksInOrder :
    (frame 1 4 1).runState = .run ∧ (config 7 8 1).runState = .idle ∧ (config 7 8 1).modeNum = 7 ∧
      ((config 0x36 8 1).modeNum = 6 ∧ (config 0x36 8 1).rawbppNum = 3) ∧ (config 1 0 1).width = 0 ∧ (config 1 4 0).height = 0 ∧
      ((config 1 6 1).modeNum ≠ 7 ∧ ¬((config 1 6 1).modeNum = 6 ∧ (config 1 6 1).rawbppNum = 3) ∧
        (config 1 6 1).width.toNat % ppb (config 1 6 1).ctrl ≠ 0) ∧
      ((config 4 4 2).width ≠ 0 ∧ (config 4 4 2).height ≠ 0 ∧ (config 4 4 2).width.toNat % ppb (config 4 4 2).ctrl = 0 ∧
        (config 4 4 2).modeNum = 4 ∧ (config 4 4 2).catlock = false) := by decide

theorem test_witness_FendEndsTheInput : State.reset.runState = .idle ∧ (frame 1 4 1).runState = .run := by decide

/-- Inside a scanline, at its end, and at the frame end, in each kind of mode. -/
theorem test_witness_AdvanceMovesOnePixel :
    (frame 1 4 2).xpos + 1 ≠ (frame 1 4 2).width ∧
      (({ frame 1 4 2 with xpos := 3 } : State).xpos + 1 = (frame 1 4 2).width ∧
        ({ frame 1 4 2 with xpos := 3 } : State).ypos + 1 ≠ (frame 1 4 2).height) ∧
      ({ frame 1 4 2 with ypos := 1 } : State).ypos + 1 = (frame 1 4 2).height ∧
      (frame 1 4 2).modeNum ≠ 5 ∧ (frame 5 4 2).modeNum = 5 ∧ (frame 4 4 2).modeNum = 4 := by decide

theorem test_witness_PixelNumberGivesThePosition :
    rawFrame.Inv ∧ rawFrame.runState = .run ∧ rawFrame.xpos = 0 ∧ rawFrame.ypos = 0 ∧
      (∀ i ∈ rawPixels.take 3, acceptedPixel rawFrame.ctrl i = true) ∧
      rawFrame.host = (rawPixels.take 3).map (fun i => .word (encode i)) ++ [.word 0x3200000A] ∧
      (rawPixels.take 3).length < rawFrame.frameSize :=
  ⟨test_rawFrame_inv, by decide, by decide, by decide, by decide, by decide, by decide⟩

theorem test_witness_FrameCompletesOnItsLastPixel :
    rawFrame.Inv ∧ rawFrame.runState = .run ∧ (∀ i ∈ rawPixels, acceptedPixel rawFrame.ctrl i = true) ∧
      rawFrame.host = rawPixels.map (fun i => .word (encode i)) ++ [] ∧
      rawFrame.position + rawPixels.length = rawFrame.frameSize :=
  ⟨test_rawFrame_inv, by decide, by decide, by decide, by decide⟩

theorem test_witness_RawFrameBytesHoldThePixels :
    rawFrame.Inv ∧ rawFrame.runState = .run ∧ rawFrame.modeNum = 6 ∧ rawFrame.xpos = 0 ∧ rawFrame.ypos = 0 ∧
      (∀ idx ∈ ([0, 15, 5, 10] : List Index), idx.toNat < 2 ^ bpp rawFrame.ctrl) ∧
      rawFrame.host = ([0, 15, 5, 10] : List Index).map (fun idx => .word (encode (.pxi idx))) ++ [] ∧
      ([0, 15, 5, 10] : List Index).length = rawFrame.frameSize :=
  ⟨test_rawFrame_inv, by decide, by decide, by decide, by decide, by decide, by decide, by decide⟩

theorem test_witness_CompletedFrameByteCounts :
    (rawFrame.Inv ∧ rawFrame.runState = .run ∧ rawFrame.xpos = 0 ∧ rawFrame.ypos = 0) ∧
      ∃ t : State, RunsFor 4 rawFrame ∧ steps 4 rawFrame = .next t ∧ FrameCompleted t :=
  ⟨⟨test_rawFrame_inv, by decide +kernel, by decide +kernel, by decide +kernel⟩, completes (by decide +kernel) (by decide +kernel)⟩

/-- A 4 x 1 frame of a colour mode after CAT5, the four pixels of V-Q4 about to be pushed. -/
def colourFrame (m : Half) : State :=
  { cat5 (frame m 4 1) with host := [0xFFFFFF, 0xFFFFFF, 0x000000, 0xFFFFFF].map fun rgb => .word (encode (.pxc rgb)) }

theorem test_globFrame_inv : (colourFrame 4).Inv where
  catalog := ⟨by decide +kernel, by decide +kernel⟩
  raster := ⟨by decide +kernel, by decide +kernel, by decide +kernel, by decide +kernel⟩
  accumulator := ⟨by decide +kernel, by decide +kernel, by decide +kernel, by decide +kernel, by decide +kernel⟩
  status := ⟨by decide +kernel, by decide +kernel, by decide +kernel, by decide +kernel, by decide +kernel,
    by decide +kernel, by decide +kernel⟩

theorem test_lineFrame_inv : (colourFrame 5).Inv where
  catalog := ⟨by decide +kernel, by decide +kernel⟩
  raster := ⟨by decide +kernel, by decide +kernel, by decide +kernel, by decide +kernel⟩
  accumulator := ⟨by decide +kernel, by decide +kernel, by decide +kernel, by decide +kernel, by decide +kernel⟩
  status := ⟨by decide +kernel, by decide +kernel, by decide +kernel, by decide +kernel, by decide +kernel,
    by decide +kernel, by decide +kernel⟩

/-- The same for a frame of `GLOB`. -/
theorem test_witness_CompletedFrameByteCounts_glob :
    ((colourFrame 4).Inv ∧ (colourFrame 4).runState = .run ∧ (colourFrame 4).xpos = 0 ∧ (colourFrame 4).ypos = 0) ∧
      ∃ t : State, RunsFor 4 (colourFrame 4) ∧ steps 4 (colourFrame 4) = .next t ∧ FrameCompleted t :=
  ⟨⟨test_globFrame_inv, by decide +kernel, by decide +kernel, by decide +kernel⟩, completes (by decide +kernel) (by decide +kernel)⟩

/-- The same for a frame of `LINE`. -/
theorem test_witness_CompletedFrameByteCounts_line :
    ((colourFrame 5).Inv ∧ (colourFrame 5).runState = .run ∧ (colourFrame 5).xpos = 0 ∧ (colourFrame 5).ypos = 0) ∧
      ∃ t : State, RunsFor 4 (colourFrame 5) ∧ steps 4 (colourFrame 5) = .next t ∧ FrameCompleted t :=
  ⟨⟨test_lineFrame_inv, by decide +kernel, by decide +kernel, by decide +kernel⟩, completes (by decide +kernel) (by decide +kernel)⟩

theorem test_witness_PixelInIdleSetsTrailOnly : (config 1 4 1).runState = .idle := by decide

theorem test_witness_PixelOfTheWrongKindFaults :
    (frame 4 4 1).runState = .run ∧ 4 ≤ (frame 4 4 1).modeNum ∧ 4 ≤ (frame 7 4 1).modeNum ∧
      ((frame 3 4 1).modeNum ≠ 4 ∧ (frame 3 4 1).modeNum ≠ 5) ∧ (frame 6 4 1).modeNum ≠ 5 ∧ (frame 5 4 1).modeNum ≠ 6 := by
  decide

theorem test_witness_PxgClassifiesOrDithers :
    (frame 0 8 1).runState = .run ∧
      ([0, 1, 2, 3].map fun m => (frame m 8 1).modeNum) = [0, 1, 2, 3] ∧ (frame 3 8 1).modeNum ≤ 3 := by decide

theorem test_witness_PxcAccumulatesPacksAdvances :
    (frame 4 4 1).runState = .run ∧ (frame 4 4 1).modeNum = 4 ∧ (frame 5 4 1).modeNum = 5 := by decide

theorem test_witness_PxiPacksAnIndexThatFits :
    (frame 0x06 8 1).runState = .run ∧ ([0x06, 0x16, 0x26].map fun m => (frame m 8 1).modeNum) = [6, 6, 6] ∧
      ((frame 0x06 8 1).rawbppNum = 0 ∧ (1 : Index).toNat < 2 ^ 1 ∧ 2 ^ 1 ≤ (2 : Index).toNat) ∧
      ((frame 0x16 8 1).rawbppNum = 1 ∧ (3 : Index).toNat < 2 ^ 2 ∧ 2 ^ 2 ≤ (4 : Index).toNat) ∧
      ((frame 0x26 8 1).rawbppNum = 2 ∧ (15 : Index).toNat < 2 ^ 4) := by decide

theorem test_witness_KnownColourKeepsItsIndex :
    AccumulatorOk (fourColours (frame 5 8 1)) ∧ (3 : Fin 4).val < (fourColours (frame 5 8 1)).palcnt.val ∧
      ((fourColours (frame 5 8 1)).ps[(3 : Fin 4)]).key = 0xFFFFFF :=
  ⟨test_fourColours_ok, by decide, by decide⟩

/-- The first slot and the last, for a colour of the catalog and for one it lacks. -/
theorem test_witness_NewColourTakesTheNextSlot :
    ((frame 5 8 1).palcnt.val < 4 ∧ ∀ k : Fin 4, ¬ k.val < (frame 5 8 1).palcnt.val) ∧
      (({ fourColours (frame 5 8 1) with palcnt := 3 } : State).palcnt.val < 4 ∧
        (∀ k : Fin 4, k.val < 3 → ((fourColours (frame 5 8 1)).ps[k]).key ≠ 0x000000) ∧
        ∀ k : Fin 4, k.val < 3 → ((fourColours (frame 5 8 1)).ps[k]).key ≠ 0x123456) ∧
      catLookup (fourColours (frame 5 8 1)) 0x000000 = some 0x00 ∧
      catLookup (fourColours (frame 5 8 1)) 0x123456 = none := by decide +kernel

theorem test_witness_FifthColourClampsToIndexZero :
    (∀ k : Fin 4, ((fourColours (frame 5 8 1)).ps[k]).key ≠ 0x000000) ∧ (fourColours (frame 5 8 1)).palcnt.val = 4 ∧
      (fourColours (frame 5 8 1)).ovfl = false ∧ ({ fourColours (frame 5 8 1) with ovfl := true } : State).ovfl = true := by
  decide +kernel

theorem test_witness_PackedIndexResolvesToItsSlot :
    AccumulatorOk (fourColours (frame 5 8 1)) ∧ AccumulatorOk (frame 5 8 1) :=
  ⟨test_fourColours_ok, by decide, by decide, by decide +kernel, by decide, by decide⟩

theorem test_witness_DitherMeetsTheTableConstraints :
    (0x0F : Byte).toNat < 16 ∧ 240 ≤ (0xF0 : Byte).toNat ∧ (0x5F : Byte).toNat / 16 ≤ (0x50 : Byte).toNat / 16 := by decide

theorem test_witness_DitherDependsOnBucketAndCell :
    (0x58 : Byte).toNat / 16 = (0x5F : Byte).toNat / 16 ∧ (0 : Half).toNat % 4 = (4 : Half).toNat % 4 ∧
      (1 : Half).toNat % 4 = (0xFFFD : Half).toNat % 4 := by decide

theorem test_witness_BitsOfAnIndexByMode :
    ([0, 1, 2, 3, 4, 5, 6].map fun m => (config m 8 1).modeNum) = [0, 1, 2, 3, 4, 5, 6] ∧ (config 0x06 8 1).rawbppNum = 0 ∧
      (config 0x16 8 1).rawbppNum = 1 ∧ (config 0x26 8 1).rawbppNum = 2 := by decide

theorem test_witness_PackShiftsInOneIndex :
    ({ frame 0 8 1 with pcnt := 7 } : State).pcnt.val + 1 = ppb (frame 0 8 1).ctrl ∧
      (({ frame 0 8 1 with pcnt := 6 } : State).pcnt.val + 1 ≠ ppb (frame 0 8 1).ctrl ∧
        ({ frame 0 8 1 with pcnt := 6 } : State).pcnt.val < 7) := by decide

theorem test_witness_PackedByteLayouts :
    (frame 1 4 1).pacc = 0 ∧ (frame 1 4 1).pcnt = 0 ∧ bpp (frame 1 4 1).ctrl = 2 ∧ bpp (frame 0 8 1).ctrl = 1 ∧
      bpp (frame 2 4 1).ctrl = 4 ∧ (3 : Index).toNat < 4 ∧ (1 : Index).toNat < 2 := by decide

/-- V-P1's group. -/
theorem test_witness_PackingRoundTrip :
    (frame 0x16 4 1).pacc = 0 ∧ (frame 0x16 4 1).pcnt = 0 ∧ reservedConfig (frame 0x16 4 1).ctrl = false ∧
      ([0, 1, 2, 3] : List Index).length = ppb (frame 0x16 4 1).ctrl ∧
      ∀ i ∈ ([0, 1, 2, 3] : List Index), i.toNat < 2 ^ bpp (frame 0x16 4 1).ctrl := by decide

theorem test_witness_GreyAndRawPixelFrame :
    (∃ t, (frame 1 4 1).runState = .run ∧ ∃ i, (frame 1 4 1).modeNum ≤ 3 ∧ exec (.pxg i) (frame 1 4 1) = .next t) ∧
      ∃ t, (frame 0x26 2 1).runState = .run ∧ ∃ idx : Index, (frame 0x26 2 1).modeNum = 6 ∧
        idx.toNat < 2 ^ bpp (frame 0x26 2 1).ctrl ∧ exec (.pxi idx) (frame 0x26 2 1) = .next t :=
  ⟨⟨_, rfl, 0x40, by decide, rfl⟩, _, rfl, 15, by decide, by decide, rfl⟩

theorem test_witness_ColourPixelFrame :
    ∃ t, (cat5 (frame 5 4 1)).runState = .run ∧ (cat5 (frame 5 4 1)).modeNum = 5 ∧ (frame 4 4 1).modeNum = 4 ∧
      exec (.pxc 0xFFFFFF) (cat5 (frame 5 4 1)) = .next t :=
  ⟨_, by decide +kernel, by decide +kernel, by decide, rfl⟩

theorem test_witness_NoPaletteBytesOutsideAdaptiveModes :
    ∃ t, rawFrame.modeNum ≠ 4 ∧ rawFrame.modeNum ≠ 5 ∧ hardResetNext rawFrame = false ∧ step rawFrame = .next t :=
  ⟨_, by decide, by decide, rfl, rfl⟩

theorem test_witness_FaultEntryRecordsTheCause :
    causeCode .malformedInput = 1 ∧ causeCode .catalogFull = 7 := by decide

theorem test_witness_FaultsArePrecise :
    ∃ t, State.reset.runState ≠ .fault ∧ exec .catlock State.reset = .next t ∧ t.runState = .fault :=
  ⟨_, by decide, rfl, by decide +kernel⟩

theorem test_witness_FaultDropsCommands :
    faulted.runState = .fault ∧ Instr.WellFormed (.wr .catval 1) ∧ Instr.wr .catval 1 ≠ .srst ∧
      ∀ r, Instr.wr .catval 1 ≠ .rd r := ⟨by decide, by decide, by decide, fun r h => by cases h⟩

/-- A dropped word, an answered `RD`, and no word at all. -/
theorem test_witness_OnlyResetLeavesFault :
    (∃ t, step (pushing 0x20000000 faulted) = .next t ∧ resetNext (pushing 0x20000000 faulted) = false) ∧
      (∃ t, step (pushing 0x03090000 faulted) = .next t ∧ resetNext (pushing 0x03090000 faulted) = false) ∧
      faulted.runState = .fault ∧ resetNext faulted = false ∧ step faulted = .next faulted :=
  ⟨⟨_, rfl, by decide⟩, ⟨_, rfl, by decide⟩, by decide, by decide, rfl⟩

theorem test_witness_AtMostOneRecordPerCommand :
    ∃ t, exec (.pxc 0x123456) (cat5 (frame 5 4 1)) = .next t ∧ t.diag.length = 1 := ⟨_, rfl, by decide +kernel⟩

/-- To `RUN` by `START`; from `RUN` to `IDLE` by the last pixel, and by `SRST`. -/
theorem test_witness_RunStateTransitions :
    (∃ t, exec .start (config 1 4 1) = .next t ∧ t.runState = .run) ∧
      (∃ t, exec (.pxi 1) { frame 0x26 2 1 with xpos := 1, pcnt := 1 } = .next t ∧
        (frame 0x26 2 1).runState = .run ∧ t.runState = .idle) ∧
      ∃ t, exec .srst (frame 1 4 1) = .next t ∧ t.runState = .idle :=
  ⟨⟨_, rfl, by decide +kernel⟩, ⟨_, rfl, by decide, by decide +kernel⟩, _, rfl, by decide⟩

theorem test_witness_StepKeepsTheInvariant : ∃ t, rawFrame.Inv ∧ step rawFrame = .next t := ⟨_, test_rawFrame_inv, rfl⟩

/-- Two states that do differ: an unpopulated slot and an invalid entry hold other contents. -/
theorem test_witness_DeadContentsAreNeverRead :
    ∃ s s' t : State, SameButDead s s' ∧ s ≠ s' ∧ step s = .next t := by
  refine ⟨frame 5 8 1, { frame 5 8 1 with ps := Vector.replicate 4 ⟨1, 1⟩, cat := Vector.replicate 256 ⟨false, 1, 1⟩ }, _,
    ⟨rfl, by decide, by decide +kernel, by decide +kernel⟩, fun h => ?_, rfl⟩
  exact absurd (congrArg (fun u : State => (u.ps[0]).key) h) (by decide)

end Sys2Proof.Tests
end

/-! # What a legal word says of itself (R62, R64, R66) -/

namespace Sys2Proof

theorem decodeZ_legal {w : Word} {i j : Instr} (h : decodeZ w i = .legal j) : payload w = 0 ∧ i = j := by
  unfold decodeZ at h
  split at h
  · exact ⟨‹_›, Decoded.legal.inj h⟩
  · cases h

theorem decodeWr_opcode {w : Word} {i : Instr} (h : decodeWr w = .legal i) : 0x02 = opcodeOf i := by
  unfold decodeWr at h
  split at h
  · cases h
  · split at h <;> cases h
    rfl

theorem decodeRd_opcode {w : Word} {i : Instr} (h : decodeRd w = .legal i) : 0x03 = opcodeOf i := by
  unfold decodeRd at h
  split at h
  · split at h <;> cases h
    rfl
  · cases h

theorem decodePxg_opcode {w : Word} {i : Instr} (h : decodePxg w = .legal i) : 0x30 = opcodeOf i := by
  unfold decodePxg at h
  split at h <;> cases h
  rfl

theorem decodePxi_opcode {w : Word} {i : Instr} (h : decodePxi w = .legal i) : 0x32 = opcodeOf i := by
  unfold decodePxi at h
  split at h <;> cases h
  rfl

/-- A legal word carries the opcode of its command (R62, R64). -/
theorem opField_of_decode {w : Word} {i : Instr} (h : decode w = .legal i) : opField w = opcodeOf i := by
  have formatZ {j : Instr} (hd : decode w = decodeZ w j) (ho : opField w = opcodeOf j) : opField w = opcodeOf i :=
    ho.trans (congrArg opcodeOf (decodeZ_legal (hd.symm.trans h)).2)
  have hmem : opField w ∈ definedOpcodes := by
    by_contra hn
    rw [decode_reserved hn] at h
    cases h
  simp only [definedOpcodes, List.mem_cons, List.not_mem_nil, or_false] at hmem
  obtain ho | ho | ho | ho | ho | ho | ho | ho | ho | ho | ho | ho := hmem
  · exact formatZ (decode_nop ho) ho
  · exact formatZ (decode_srst ho) ho
  · exact ho.trans (decodeWr_opcode ((decode_wr ho).symm.trans h))
  · exact ho.trans (decodeRd_opcode ((decode_rd ho).symm.trans h))
  · exact formatZ (decode_catclr ho) ho
  · cases (decode_catk ho).symm.trans h
    exact ho
  · exact formatZ (decode_catlock ho) ho
  · exact formatZ (decode_start ho) ho
  · exact formatZ (decode_fend ho) ho
  · exact ho.trans (decodePxg_opcode ((decode_pxg ho).symm.trans h))
  · cases (decode_pxc ho).symm.trans h
    exact ho
  · exact ho.trans (decodePxi_opcode ((decode_pxi ho).symm.trans h))

/-- A word the decoder reads as `SRST` is its encoding (R62, R66). -/
theorem word_of_decode_srst {w : Word} (h : decode w = .legal .srst) : w = encode .srst := by
  have hop := opField_of_decode h
  have hpay := (decodeZ_legal ((decode_srst hop).symm.trans h)).1
  exact word_ext (hop.trans (opField_encode _).symm) (hpay.trans (payload_encode .srst).symm)

end Sys2Proof

/-! # What the shared operations write, for the statements about every step

The raster, packer and palette operations branch on the configuration; each lemma here names once the only
fields such an operation can change. -/

namespace Sys2Proof.Machine

/-- `pack` writes `PIXOUT`, `PACC` and `PCNT`, and only appends to the stream (R130). -/
theorem pack_writes (idx : Index) (s : State) :
    ∃ l acc n, pack idx s = { s with pixout := s.pixout ++ l, pacc := acc, pcnt := n } := by
  by_cases h : s.pcnt.val + 1 = ppb s.ctrl
  · exact ⟨_, _, _, pack_full h⟩
  · exact ⟨[], _, _, by rw [pack_partial h, List.append_nil]⟩

/-- `line_end()` does nothing, or emits the palette and empties the accumulator (R106). -/
theorem lineEnd_writes (s : State) :
    lineEnd s = s ∨ lineEnd s = { emitPalette s with palcnt := 0, ovfl := false } := by
  by_cases h : modeOf s.ctrl = .line
  · exact .inr (lineEnd_line h)
  · exact .inl (lineEnd_other h)

/-- `frame_end()` writes `STATE` and `DONE`, and may append to `PALOUT` (R107). -/
theorem frameEnd_writes (s : State) :
    ∃ l, frameEnd s = { s with palout := s.palout ++ l, runState := .idle, done := true } := by
  by_cases h : modeOf s.ctrl = .glob
  · exact ⟨_, frameEnd_glob h⟩
  · exact ⟨[], by rw [frameEnd_other h, List.append_nil]⟩

/-- A property kept by a move of the position, by `line_end()` and by `frame_end()` is kept by `advance()`, which
is made of these (R105). -/
theorem advance_keeps {P : State → Prop} (hmove : ∀ u x y, P u → P { u with xpos := x, ypos := y })
    (hline : ∀ u, P u → P (lineEnd u)) (hframe : ∀ u, P u → P (frameEnd u)) {s : State} (h : P s) :
    P (advance s) := by
  have hx : P { s with xpos := s.xpos + 1 } := hmove s _ s.ypos h
  rcases advance_cases s with ⟨_, e⟩ | ⟨_, _, e⟩ | ⟨_, _, e⟩ <;> rw [e]
  · exact hx
  · exact hmove _ _ _ (hline _ hx)
  · exact hframe _ (hmove _ _ _ (hline _ hx))

/-- An allocation populates a slot with the catalog's value, 0 on a miss, and reports a miss (R113, R115). -/
theorem allocate_cases (rgb : Rgb) (s : State) :
    allocate rgb s = populate rgb ((catLookup s rgb).getD 0) s ∨
      allocate rgb s = reportUnreachable rgb (populate rgb ((catLookup s rgb).getD 0) s) := by
  rw [allocate_slots]
  cases catLookup s rgb with
  | some val => exact .inl rfl
  | none => exact .inr rfl

/-! ### One step by the host's next action (R85, R180) -/

theorem step_empty {s : State} (h : s.host = []) : step s = .next s := by
  simp [step, nextEvent, h]

theorem step_word {s : State} {w : Word} {rest : List HostEvent} (h : s.host = .word w :: rest) :
    step s = runWord w { s with host := rest } := by
  simp [step, nextEvent, h]

theorem step_reset {s : State} {lost : Option Word} {rest : List HostEvent} (h : s.host = .reset lost :: rest) :
    step s = .next (hardReset { s with host := rest }) := by
  simp [step, nextEvent, h]

/-! # The output streams (R30, R45) -/

/-- Each of the four output streams of `s` is an initial part of the same stream of `t`. -/
structure StreamsExtend (s t : State) : Prop where
  pixout : s.pixout <+: t.pixout
  palout : s.palout <+: t.palout
  diag : s.diag <+: t.diag
  rsp : s.rsp <+: t.rsp

theorem StreamsExtend.of_eq {s t : State} (hpix : t.pixout = s.pixout) (hpal : t.palout = s.palout)
    (hdiag : t.diag = s.diag) (hrsp : t.rsp = s.rsp) : StreamsExtend s t :=
  ⟨hpix ▸ List.prefix_rfl, hpal ▸ List.prefix_rfl, hdiag ▸ List.prefix_rfl, hrsp ▸ List.prefix_rfl⟩

theorem StreamsExtend.refl (s : State) : StreamsExtend s s := .of_eq rfl rfl rfl rfl

theorem StreamsExtend.trans {s t u : State} (h : StreamsExtend s t) (h' : StreamsExtend t u) : StreamsExtend s u :=
  ⟨h.pixout.trans h'.pixout, h.palout.trans h'.palout, h.diag.trans h'.diag, h.rsp.trans h'.rsp⟩

theorem raise_streams (c : Cause) (w : Word) (s : State) : StreamsExtend s (raise c w s) :=
  { StreamsExtend.refl s with diag := List.prefix_append _ _ }

theorem illegalWord_streams (w : Word) (s : State) : StreamsExtend s (illegalWord w s) := by
  by_cases hs : s.runState = .fault
  · rw [illegalWord_fault hs]
    exact .refl s
  · rw [illegalWord_raises hs]
    exact raise_streams _ w s

theorem pack_streams (idx : Index) (s : State) : StreamsExtend s (pack idx s) := by
  obtain ⟨l, acc, n, e⟩ := pack_writes idx s
  rw [e]
  exact { StreamsExtend.refl s with pixout := List.prefix_append _ _ }

theorem lineEnd_streams (s : State) : StreamsExtend s (lineEnd s) := by
  rcases lineEnd_writes s with e | e <;> rw [e]
  · exact .refl s
  · exact { StreamsExtend.refl s with palout := List.prefix_append _ _ }

theorem frameEnd_streams (s : State) : StreamsExtend s (frameEnd s) := by
  obtain ⟨l, e⟩ := frameEnd_writes s
  rw [e]
  exact { StreamsExtend.refl s with palout := List.prefix_append _ _ }

theorem advance_streams (s : State) : StreamsExtend s (advance s) :=
  advance_keeps (P := StreamsExtend s) (fun _ _ _ h => { h with }) (fun u h => h.trans (lineEnd_streams u))
    (fun u h => h.trans (frameEnd_streams u)) (.refl s)

theorem packAdvance_streams (idx : Index) (s : State) : StreamsExtend s (packAdvance idx s) :=
  (pack_streams idx s).trans (advance_streams _)

theorem accumulate_streams (rgb : Rgb) (s : State) : StreamsExtend s (accumulate rgb s).2 := by
  have hp (hw : Byte) : StreamsExtend s (populate rgb hw s) := .of_eq (by simp) (by simp) (by simp) (by simp)
  rcases accumulate_cases rgb s with ⟨_, _, e⟩ | ⟨_, _, e⟩ | ⟨_, _, _, e⟩ | ⟨_, _, _, e⟩ <;> rw [e]
  case inl | inr.inr.inr => exact .refl s
  case inr.inr.inl => exact { StreamsExtend.refl s with diag := List.prefix_append _ _ }
  case inr.inl =>
    rcases allocate_cases rgb s with e | e <;> rw [e]
    · exact hp _
    · exact (hp _).trans { StreamsExtend.refl _ with diag := List.prefix_append _ _ }

theorem exec_streams {i : Instr} {s t : State} (h : exec i s = .next t) : StreamsExtend s t := by
  cases exec_effect h with
  | nothing => exact .refl _
  | fault _ c => exact raise_streams c _ s
  | read => exact { StreamsExtend.refl s with rsp := List.prefix_append _ _ }
  | grey | index => exact packAdvance_streams _ s
  | color rgb => exact (accumulate_streams rgb s).trans (packAdvance_streams _ _)
  | write | append => exact .of_eq (by simp) (by simp) (by simp) (by simp)
  | reset | clear | lock | begin | trail => exact .of_eq rfl rfl rfl rfl

/-- Settles O10: every effect of a command only appends; the reset input is excluded. -/
theorem streamsAreAppendOnly : Obligations.StreamsAreAppendOnly := by
  intro s t hreset ht
  have key : StreamsExtend s t := by
    obtain ⟨_, rfl⟩ | ⟨_, rest, _, _, _, he⟩ | ⟨w, rest, _, _, _, rfl⟩ | ⟨_, _, hh, _⟩ := step_cases ht
    · exact .refl _
    · exact { exec_streams he with }
    · exact { illegalWord_streams w { s with host := rest } with }
    · simp [hardResetNext, hh] at hreset
  exact ⟨key.pixout, key.palout, key.diag, key.rsp⟩

/-! # The frozen catalog (R27, R96) -/

/-- A command other than `SRST` leaves a locked catalog, its pointer and the lock as they are. -/
theorem exec_locked_catalog {i : Instr} {s t : State} (hl : s.catlock = true) (hi : i ≠ .srst)
    (h : exec i s = .next t) : t.cat = s.cat ∧ t.catptr = s.catptr ∧ t.catlock = true := by
  cases exec_effect h with
  | reset => exact absurd rfl hi
  | clear _ hopen => simp [hl] at hopen
  | append _ _ hopen => simp [hl] at hopen
  | lock => exact ⟨rfl, rfl, rfl⟩
  | grey | color | index => simp [packAdvance, hl]
  | nothing | fault | write | read | begin | trail => simp [hl]

theorem illegalWord_locked_catalog {s : State} (w : Word) (hl : s.catlock = true) :
    (illegalWord w s).cat = s.cat ∧ (illegalWord w s).catptr = s.catptr ∧ (illegalWord w s).catlock = true := by
  by_cases hs : s.runState = .fault
  · simp [illegalWord_fault hs, hl]
  · simp [illegalWord_raises hs, hl]

/-- Settles O23: of the things a step can be, only the two resets write a locked catalog. -/
theorem lockedCatalogNeverChanges : Obligations.LockedCatalogNeverChanges := by
  intro s t hl hreset ht
  rcases step_cases ht with ⟨_, rfl⟩ | ⟨w, rest, i, hh, hd, he⟩ | ⟨w, rest, _, _, _, rfl⟩ | ⟨_, _, hh, _⟩
  · exact ⟨rfl, rfl, hl⟩
  · refine exec_locked_catalog (s := { s with host := rest }) hl ?_ he
    rintro rfl
    simp [resetNext, hh, word_of_decode_srst hd] at hreset
  · exact illegalWord_locked_catalog (s := { s with host := rest }) w hl
  · simp [resetNext, hh] at hreset

/-! # How `STATE` moves (R11, R107) -/

/-- A pixel that takes a running frame to `IDLE` is its last one (R107). -/
theorem packAdvance_completes {s : State} {idx : Index} (hs : s.runState = .run)
    (ht : (packAdvance idx s).runState = .idle) :
    (packAdvance idx s).done = true ∧ (packAdvance idx s).xpos = 0 ∧ (packAdvance idx s).ypos = s.height := by
  unfold packAdvance at ht ⊢
  rcases advance_cases (pack idx s) with ⟨_, e⟩ | ⟨_, _, e⟩ | ⟨_, hy, e⟩ <;> rw [e] at ht ⊢
  · simp [hs] at ht
  · simp [hs] at ht
  · simpa using hy

/-- Settles O56: of the effects of a command only `START` enters `RUN`, and only `SRST` and the last pixel lead
from `RUN` to `IDLE`. -/
theorem runStateTransitions : Obligations.RunStateTransitions := by
  intro i s t h
  cases exec_effect h with
  | fault => exact ⟨nofun, nofun⟩
  | reset => exact ⟨nofun, fun _ _ => .inl rfl⟩
  | begin hs => exact ⟨fun _ => .inr ⟨hs, rfl⟩, fun hs' => by simp [hs] at hs'⟩
  | nothing | write | read | clear | append | lock | trail =>
    exact ⟨fun ht => .inl (by simpa using ht), fun hs ht => by simp [hs] at ht⟩
  | grey i hs ha => exact ⟨fun _ => .inl hs, fun _ ht => .inr ⟨ha, packAdvance_completes hs ht⟩⟩
  | color rgb hs ha =>
    refine ⟨fun _ => .inl hs, fun _ ht => .inr ⟨ha, ?_⟩⟩
    simpa using packAdvance_completes (by simpa using hs) ht
  | index idx hs ha hidx =>
    exact ⟨fun _ => .inl hs, fun _ ht => .inr ⟨by simp [acceptedPixel, ha, hidx], packAdvance_completes hs ht⟩⟩

/-! # Reset values and `bpp()` (R33, R15) -/

/-- Settles O11: the fields of `State.reset` against the values of R33. -/
theorem resetStateValues : Obligations.ResetStateValues := by
  refine ⟨?_, rfl, rfl, rfl, rfl⟩
  exact
    { runState := rfl
      position := ⟨rfl, rfl⟩
      config := ⟨rfl, rfl, rfl, rfl⟩
      flags := ⟨rfl, rfl, rfl, rfl, rfl, rfl⟩
      fcode := rfl
      counters := ⟨rfl, rfl⟩
      palette := rfl
      catalog := ⟨rfl, fun e => by rw [reset_catalogForm e]; rfl⟩
      packer := ⟨rfl, rfl⟩ }

/-- `CTRL.RAWBPP` has a value when its number is that value. -/
theorem rawbppOf_eq_iff {s : State} {r : BitVec 2} : rawbppOf s.ctrl = r ↔ s.rawbppNum = r.toNat := by
  rw [← rawbpp_bits, BitVec.toNat_inj]

/-- Settles O43: `CTRL.MODE` and `CTRL.RAWBPP` are read as numbers, and each number picks its branch of `bpp`. -/
theorem bitsOfAnIndexByMode : Obligations.BitsOfAnIndexByMode := by
  intro s
  unfold bpp
  rw [modeOf_eq]
  refine ⟨?_, ?_, ?_, ?_, ?_, ?_⟩
  · intro h; simp [h]
  · rintro (h | h | h | h) <;> simp [h]
  · intro h; simp [h]
  all_goals intro h hr; simp [h, rawbppOf_eq_iff, hr]

/-! # The invariant of the machine

Each part of `State.Inv` is carried through each operation on its own; a part that reads no field an
operation writes is rebuilt from its old fields. -/

/-- The codes a record of `DIAG` can have: the causes a command can raise and the two events (R151, R154). -/
abbrev recordCodes : List Byte := [0x01, 0x02, 0x04, 0x05, 0x06, 0x07, 0x10, 0x11]

/-! ### States that meet it at once -/

/-- An accumulator without populated slots and without an overflow is well formed (R26). -/
theorem AccumulatorOk.of_empty {s : State} (hn : s.palcnt = 0) (ho : s.ovfl = false) : AccumulatorOk s where
  distinct := by simp [hn]
  frozen := by simp [hn]
  hardware := by simp [hn]
  unused := by simp [hn]
  overflow := by simp [ho]

/-- While the catalog is not frozen the accumulator is empty. -/
theorem AccumulatorOk.empty_of_unlocked {s : State} (h : AccumulatorOk s) (hl : s.catlock = false) :
    s.palcnt = 0 ∧ s.ovfl = false := by
  have hn : s.palcnt.val = 0 := by
    by_contra hne
    exact absurd (h.frozen (by omega)) (by simp [hl])
  refine ⟨Fin.ext hn, ?_⟩
  by_contra ho
  have := h.overflow (by simpa using ho)
  omega

theorem reset_inv : State.reset.Inv where
  catalog := ⟨reset_catalogForm, by decide⟩
  raster := ⟨fun _ => ⟨rfl, rfl, rfl⟩, nofun, nofun, nofun⟩
  accumulator := .of_empty rfl rfl
  status :=
    { reserved := by decide
      fcode := by decide
      running := nofun
      sticky := nofun
      overflows := by decide
      unreachable := by decide
      codes := ⟨by decide, nofun⟩ }

/-- The reset values meet the invariant under any streams whose records have defined codes. -/
theorem reset_inv_of_streams (pix pal : List Byte) (resp : List Word) (host : List HostEvent) {diag : List DiagRec}
    (hd : ∀ r ∈ diag, r.code ∈ recordCodes) :
    State.Inv { State.reset with pixout := pix, palout := pal, diag := diag, rsp := resp, host := host } where
  catalog := { reset_inv.catalog with }
  raster := { reset_inv.raster with }
  accumulator := { reset_inv.accumulator with }
  status := { reset_inv.status with codes := ⟨reset_inv.status.codes.1, hd⟩ }

theorem resetKeepingStreams_inv {s : State} (h : s.Inv) : (resetKeepingStreams s).Inv :=
  reset_inv_of_streams _ _ _ _ h.status.codes.2

theorem hardReset_inv (s : State) : (hardReset s).Inv :=
  reset_inv_of_streams _ _ _ _ nofun

/-! ### Faults, control and catalog commands -/

/-- The host's list is no part of the invariant. -/
theorem State.Inv.withHost {s : State} (h : s.Inv) (host : List HostEvent) : State.Inv { s with host := host } where
  catalog := { h.catalog with }
  raster := { h.raster with }
  accumulator := { h.accumulator with }
  status := { h.status with }

/-- A record appended with a defined code leaves only defined codes in `DIAG` (R151). -/
theorem codes_append {l : List DiagRec} {r : DiagRec} {codes : List Byte} (hl : ∀ q ∈ l, q.code ∈ codes)
    (hr : r.code ∈ codes) : ∀ q ∈ l ++ [r], q.code ∈ codes := by
  intro q hq
  rcases List.mem_append.mp hq with hq | hq
  · exact hl q hq
  · rwa [List.mem_singleton.mp hq]

/-- The codes of the causes a command can raise are among the defined ones, and none is 0 (R151). -/
theorem causeCode_raisable : ∀ c ∈ raisable, causeCode c ≠ 0 ∧
    causeCode c ∈ ([0x00, 0x01, 0x02, 0x04, 0x05, 0x06, 0x07] : List Byte) ∧ causeCode c ∈ recordCodes := by
  decide

/-- The codes of the two events are among the defined ones (R151). -/
theorem eventCode_defined (e : Event) : eventCode e ∈ recordCodes := by
  cases e <;> decide

theorem raise_inv {c : Cause} {s : State} (w : Word) (hc : c ∈ raisable) (h : s.Inv) : (raise c w s).Inv := by
  obtain ⟨hne, hcode, hdiag⟩ := causeCode_raisable c hc
  exact
    { catalog := { h.catalog with }
      raster := ⟨nofun, nofun, nofun, nofun⟩
      accumulator := { h.accumulator with unused := nofun }
      status := { h.status with
        fcode := by simpa using hne
        running := nofun
        codes := ⟨hcode, codes_append h.status.codes.2 hdiag⟩ } }

theorem illegalWord_inv {s : State} (w : Word) (h : s.Inv) : (illegalWord w s).Inv := by
  by_cases hs : s.runState = .fault
  · rwa [illegalWord_fault hs]
  · rw [illegalWord_raises hs]
    exact raise_inv w (by decide) h

theorem markTrail_inv {s : State} (hs : s.runState = .idle) (h : s.Inv) : (markTrail s).Inv where
  catalog := { h.catalog with }
  raster := { h.raster with }
  accumulator := { h.accumulator with }
  status := { h.status with running := by simp [hs] }

/-- A register keeps its reserved bits 0 when it is written under its mask (R15, R18, R41). -/
theorem regWrite_reserved (r : Reg) (v : Half) {s : State}
    (h : s.ctrl &&& ctrlMask = s.ctrl ∧ s.catval &&& catvalMask = s.catval) :
    (regWrite r v s).ctrl &&& ctrlMask = (regWrite r v s).ctrl ∧
      (regWrite r v s).catval &&& catvalMask = (regWrite r v s).catval := by
  cases r
  case ctrl => exact ⟨by simp [regWrite, BitVec.and_assoc], h.2⟩
  case catval => exact ⟨h.1, by simp [regWrite, BitVec.and_assoc]⟩
  all_goals exact h

theorem regWrite_inv (r : Reg) (v : Half) {s : State} (hs : s.runState = .idle) (h : s.Inv) :
    (regWrite r v s).Inv where
  catalog := ⟨by simpa using h.catalog.valid, by simpa using h.catalog.locked⟩
  raster := ⟨by simpa using h.raster.idle, by simp [hs], by simp [hs], by simp [hs]⟩
  accumulator :=
    { distinct := by simpa using h.accumulator.distinct
      frozen := by simpa using h.accumulator.frozen
      hardware := by
        simpa [catLookup_congr (regWrite_cat r v s) (regWrite_catptr r v s)] using h.accumulator.hardware
      unused := by simp [hs]
      overflow := by simpa using h.accumulator.overflow }
  status :=
    { reserved := regWrite_reserved r v h.status.reserved
      fcode := by simpa using h.status.fcode
      running := by simp [hs]
      sticky := by simpa using h.status.sticky
      overflows := by simpa using h.status.overflows
      unreachable := by simpa using h.status.unreachable
      codes := by simpa using h.status.codes }

theorem read_inv {s : State} (resp : List Word) (h : s.Inv) : State.Inv { s with rsp := resp } where
  catalog := { h.catalog with }
  raster := { h.raster with }
  accumulator := { h.accumulator with }
  status := { h.status with }

theorem clearCatalog_inv {s : State} (hl : s.catlock = false) (h : s.Inv) : (clearCatalog s).Inv := by
  obtain ⟨hn, ho⟩ := h.accumulator.empty_of_unlocked hl
  exact
    { catalog := ⟨clearCatalog_catalogForm s, by simp [hl]⟩
      raster := { h.raster with }
      accumulator := .of_empty hn ho
      status := { h.status with } }

theorem writeEntry_inv {s : State} (key : Rgb) (val : Byte) (hp : s.catptr.val < 256) (hl : s.catlock = false)
    (h : s.Inv) : (writeEntry key val s).Inv := by
  obtain ⟨hn, ho⟩ := h.accumulator.empty_of_unlocked hl
  have hc : CatalogOk (writeEntry key val s) := ⟨writeEntry_catalogForm h.catalog.valid, by simp [hl]⟩
  rw [writeEntry_below hp] at hc ⊢
  exact
    { catalog := hc
      raster := { h.raster with }
      accumulator := .of_empty hn ho
      status := { h.status with } }

theorem lock_inv {s : State} (hp : 0 < s.catptr.val) (hs : s.runState = .idle) (h : s.Inv) :
    State.Inv { s with catlock := true } where
  catalog := { h.catalog with locked := fun _ => hp }
  raster := { h.raster with config := by simp [hs] }
  accumulator := { h.accumulator with frozen := fun _ => rfl }
  status := { h.status with }

theorem beginFrame_inv {s : State} (hs : s.runState = .idle) (hc : reservedConfig s.ctrl = false)
    (hw : s.width ≠ 0) (hh : s.height ≠ 0) (hm : s.width.toNat % ppb s.ctrl = 0)
    (ha : adaptive s.ctrl = true → s.catlock = true) (h : s.Inv) : (beginFrame s).Inv where
  catalog := { h.catalog with }
  raster :=
    { idle := nofun
      config := fun _ => ⟨hc, hm, ha⟩
      inside := fun _ => ⟨show 0 < s.width by bv_omega, show 0 < s.height by bv_omega⟩
      packer := by simp }
  accumulator := .of_empty rfl rfl
  status := { h.status with
    fcode := by simpa [hs] using h.status.fcode
    running := by simp
    sticky := nofun
    overflows := by simp
    unreachable := by simp }

/-! ### The accumulator (R113 to R116) -/

/-- A slot populated for a colour that has none, with the frozen catalog's value, keeps the accumulator well
formed (R26, R113). -/
theorem populate_accumulatorOk {rgb : Rgb} {s : State} (hk : slotOf rgb s = none) (hn : s.palcnt.val < 4)
    (ha : adaptive s.ctrl = true) (hl : s.catlock = true) (h : AccumulatorOk s) :
    AccumulatorOk (populate rgb ((catLookup s rgb).getD 0) s) := by
  have hnew := slotOf_none.mp hk
  have hdist := h.distinct
  have hhw := h.hardware
  have hcnt := populate_palcnt (key := rgb) (hw := (catLookup s rgb).getD 0) hn
  rw [populate_below hn] at hcnt ⊢
  simp only [Fin.getElem_fin] at hnew hdist hhw
  constructor
  case distinct =>
    intro j k hj hk
    rw [hcnt] at hj hk
    simp only [Fin.getElem_fin, Vector.getElem_set]
    split <;> split <;> intro hkey
    · exact Fin.ext (by omega)
    · exact absurd hkey.symm (hnew k (by omega))
    · exact absurd hkey (hnew j (by omega))
    · exact hdist j k (by omega) (by omega) hkey
  case frozen => exact fun _ => hl
  case hardware =>
    intro k hk
    rw [hcnt] at hk
    simp only [Fin.getElem_fin, Vector.getElem_set]
    split
    · rfl
    · exact hhw k (by omega)
  case unused => simp [ha]
  case overflow => exact fun ho => absurd (h.overflow ho) (by omega)

theorem populate_inv {rgb : Rgb} {s : State} (hk : slotOf rgb s = none) (hn : s.palcnt.val < 4)
    (ha : adaptive s.ctrl = true) (hl : s.catlock = true) (h : s.Inv) :
    (populate rgb ((catLookup s rgb).getD 0) s).Inv := by
  have hacc := populate_accumulatorOk hk hn ha hl h.accumulator
  rw [populate_below hn] at hacc ⊢
  exact
    { catalog := { h.catalog with }
      raster := { h.raster with }
      accumulator := hacc
      status := { h.status with } }

theorem reportUnreachable_inv {s : State} (rgb : Rgb) (h : s.Inv) : (reportUnreachable rgb s).Inv where
  catalog := { h.catalog with }
  raster := { h.raster with }
  accumulator := { h.accumulator with }
  status := { h.status with
    unreachable := by simpa using satIncr_ne_zero s.unrcnt
    codes := ⟨h.status.codes.1, codes_append h.status.codes.2 (eventCode_defined .unreachableColor)⟩ }

/-- The first overflow of a full accumulator, with its record (R116). -/
theorem markOverflow_inv {s : State} (rgb : Rgb) (hn : s.palcnt.val = 4) (h : s.Inv) :
    (appendEvent .paletteOverflow rgb (markOverflow s)).Inv where
  catalog := { h.catalog with }
  raster := { h.raster with }
  accumulator := { h.accumulator with overflow := fun _ => hn }
  status := { h.status with
    sticky := fun _ => rfl
    overflows := by simpa using satIncr_ne_zero s.ovfcnt
    codes := ⟨h.status.codes.1, codes_append h.status.codes.2 (eventCode_defined .paletteOverflow)⟩ }

theorem accumulate_inv {s : State} (rgb : Rgb) (ha : adaptive s.ctrl = true) (hl : s.catlock = true) (h : s.Inv) :
    (accumulate rgb s).2.Inv := by
  rcases accumulate_cases rgb s with ⟨k, _, e⟩ | ⟨hk, hn, e⟩ | ⟨_, hn, _, e⟩ | ⟨_, _, _, e⟩ <;> rw [e]
  case inl => exact h
  case inr.inl =>
    have hp := populate_inv hk hn ha hl h
    rcases allocate_cases rgb s with e | e <;> rw [e]
    · exact hp
    · exact reportUnreachable_inv rgb hp
  case inr.inr.inl => exact markOverflow_inv rgb hn h
  case inr.inr.inr => exact h

/-! ### The packer and the raster (R105, R130) -/

/-- `RasterOk` between `pack` and `advance` in a running frame: the packer already counts the pixel at the
position. -/
structure RasterPacked (s : State) : Prop where
  running : s.runState = .run
  config : reservedConfig s.ctrl = false ∧ s.width.toNat % ppb s.ctrl = 0 ∧
    (adaptive s.ctrl = true → s.catlock = true)
  inside : s.xpos < s.width ∧ s.ypos < s.height
  count : s.pcnt.val = (s.xpos.toNat + 1) % ppb s.ctrl
  bits : s.pacc.toNat < 2 ^ (bpp s.ctrl * s.pcnt.val)

/-- The byte under construction takes one more index (R130). -/
theorem packed_lt {s : State} {idx : Index} (hidx : idx.toNat < 2 ^ bpp s.ctrl)
    (h : s.pacc.toNat < 2 ^ (bpp s.ctrl * s.pcnt.val)) :
    ((s.pacc <<< bpp s.ctrl) ||| idx.setWidth 8).toNat < 2 ^ (bpp s.ctrl * (s.pcnt.val + 1)) := by
  rw [packed_toNat]
  refine lt_of_le_of_lt (Nat.mod_le _ _) (Nat.or_lt_two_pow ?_ ?_)
  · rw [Nat.mul_add_one, pow_add]
    exact Nat.mul_lt_mul_of_pos_right h (by positivity)
  · exact lt_of_lt_of_le hidx (Nat.pow_le_pow_right (by decide) (Nat.le_mul_of_pos_right _ (by omega)))

/-- The count of a byte's pixels goes on modulo `ppb()` with the position (R29). -/
theorem packed_count {s : State} (hc : reservedConfig s.ctrl = false)
    (h : s.pcnt.val = s.xpos.toNat % ppb s.ctrl) :
    (s.xpos.toNat + 1) % ppb s.ctrl = if s.pcnt.val + 1 = ppb s.ctrl then 0 else s.pcnt.val + 1 := by
  rcases bpp_cases hc with ⟨_, hp⟩ | ⟨_, hp⟩ | ⟨_, hp⟩ <;> rw [hp] at h ⊢ <;> split <;> omega

theorem pack_rasterPacked {s : State} {idx : Index} (hs : s.runState = .run) (hidx : idx.toNat < 2 ^ bpp s.ctrl)
    (h : RasterOk s) : RasterPacked (pack idx s) := by
  obtain ⟨hcnt, hbits⟩ := h.packer hs
  have hcount := packed_count (h.config hs).1 hcnt
  by_cases hfull : s.pcnt.val + 1 = ppb s.ctrl
  · rw [if_pos hfull] at hcount
    rw [pack_full hfull]
    exact ⟨hs, h.config hs, h.inside hs, hcount.symm, by simp⟩
  · rw [if_neg hfull] at hcount
    have hlt : s.pcnt.val + 1 < 8 := by
      rcases bpp_cases (h.config hs).1 with ⟨_, hp⟩ | ⟨_, hp⟩ | ⟨_, hp⟩ <;> rw [hp] at hcnt hfull <;> omega
    have hnext : (Fin.ofNat 8 (s.pcnt.val + 1)).val = s.pcnt.val + 1 := Nat.mod_eq_of_lt hlt
    rw [pack_partial hfull]
    exact ⟨hs, h.config hs, h.inside hs, hnext.trans hcount.symm, by simpa only [hnext] using packed_lt hidx hbits⟩

/-- At the end of a scanline the packer holds no pixel: the width is a multiple of `ppb()` (R100, R130). -/
theorem RasterPacked.packer_empty {s : State} (h : RasterPacked s) (hx : s.xpos + 1 = s.width) :
    s.pcnt = 0 ∧ s.pacc = 0 := by
  have hw : s.xpos.toNat + 1 = s.width.toNat := by have := h.inside.1; bv_omega
  have hn : s.pcnt.val = 0 := by rw [h.count, hw, h.config.2.1]
  have hb := h.bits
  rw [hn, Nat.mul_zero, pow_zero] at hb
  exact ⟨Fin.ext hn, BitVec.eq_of_toNat_eq (Nat.lt_one_iff.mp hb)⟩

theorem advance_rasterOk {s : State} (h : RasterPacked s) : RasterOk (advance s) := by
  obtain ⟨hxw, hyh⟩ := h.inside
  rcases advance_cases s with ⟨hx, e⟩ | ⟨hx, hy, e⟩ | ⟨hx, hy, e⟩ <;> rw [e]
  case inl =>
    have hn : (s.xpos + 1).toNat = s.xpos.toNat + 1 := by bv_omega
    exact
      { idle := by simp [h.running]
        config := fun _ => h.config
        inside := fun _ => ⟨by bv_omega, hyh⟩
        packer := fun _ => ⟨by rw [hn]; exact h.count, h.bits⟩ }
  case inr.inl =>
    obtain ⟨hn, hb⟩ := h.packer_empty hx
    have hnext : 0 < s.width ∧ s.ypos + 1 < s.height := ⟨by bv_omega, by bv_omega⟩
    exact
      { idle := by simp [h.running]
        config := by simpa using fun _ => h.config
        inside := by simpa using fun _ => hnext
        packer := by simp [hn, hb] }
  case inr.inr =>
    obtain ⟨hn, hb⟩ := h.packer_empty hx
    exact ⟨by simp [hn, hb], by simp, by simp, by simp⟩

theorem lineEnd_accumulatorOk {s : State} (h : AccumulatorOk s) : AccumulatorOk (lineEnd s) := by
  rcases lineEnd_writes s with e | e <;> rw [e]
  · exact h
  · exact .of_empty rfl rfl

theorem frameEnd_accumulatorOk {s : State} (h : AccumulatorOk s) : AccumulatorOk (frameEnd s) := by
  obtain ⟨l, e⟩ := frameEnd_writes s
  rw [e]
  exact { h with unused := nofun }

theorem lineEnd_statusOk {s : State} (h : StatusOk s) : StatusOk (lineEnd s) := by
  rcases lineEnd_writes s with e | e <;> rw [e]
  · exact h
  · exact { h with sticky := nofun }

theorem frameEnd_statusOk {s : State} (hs : s.runState ≠ .fault) (h : StatusOk s) : StatusOk (frameEnd s) := by
  obtain ⟨l, e⟩ := frameEnd_writes s
  rw [e]
  exact { h with fcode := by simpa [hs] using h.fcode, running := nofun }

theorem advance_statusOk {s : State} (hs : s.runState ≠ .fault) (h : StatusOk s) : StatusOk (advance s) := by
  refine (advance_keeps (P := fun u => u.runState ≠ .fault ∧ StatusOk u) ?_ ?_ ?_ ⟨hs, h⟩).2
  · exact fun _ _ _ ⟨hu, h⟩ => ⟨hu, { h with }⟩
  · exact fun u ⟨hu, h⟩ => ⟨by simpa using hu, lineEnd_statusOk h⟩
  · exact fun u ⟨hu, h⟩ => ⟨by simp, frameEnd_statusOk hu h⟩

/-- An accepted pixel whose index fits keeps the invariant (R110). -/
theorem packAdvance_inv {s : State} {idx : Index} (hs : s.runState = .run) (hidx : idx.toNat < 2 ^ bpp s.ctrl)
    (h : s.Inv) : (packAdvance idx s).Inv := by
  have hr := pack_rasterPacked hs hidx h.raster
  unfold packAdvance
  obtain ⟨l, acc, n, e⟩ := pack_writes idx s
  rw [e] at hr ⊢
  exact
    { catalog := ⟨by simpa using h.catalog.valid, by simpa using h.catalog.locked⟩
      raster := advance_rasterOk hr
      accumulator := advance_keeps (P := AccumulatorOk) (fun _ _ _ h => { h with })
        (fun _ => lineEnd_accumulatorOk) (fun _ => frameEnd_accumulatorOk) { h.accumulator with }
      status := advance_statusOk (by simp [hs]) { h.status with } }

/-! ### Commands and steps -/

theorem exec_inv {i : Instr} {s t : State} (h : s.Inv) (ht : exec i s = .next t) : t.Inv := by
  cases exec_effect ht with
  | nothing => exact h
  | fault _ c _ hc => exact raise_inv _ hc h
  | reset => exact resetKeepingStreams_inv h
  | write r v hs _ => exact regWrite_inv r v hs h
  | read => exact read_inv _ h
  | clear _ hl => exact clearCatalog_inv hl h
  | append _ _ hl hp => exact writeEntry_inv _ _ hp hl h
  | lock hs hp => exact lock_inv hp hs h
  | begin hs hc hw hh hm ha => exact beginFrame_inv hs hc hw hh hm ha h
  | trail _ hs => exact markTrail_inv hs h
  | grey i hs ha => exact packAdvance_inv hs (greyIndex_lt i ha) h
  | color rgb hs ha =>
    have hadapt := adaptive_of_acceptsColor ha
    have hlock := (h.raster.config hs).2.2 hadapt
    exact packAdvance_inv (by simpa using hs) (by simpa using accumulate_index_lt rgb ha)
      (accumulate_inv rgb hadapt hlock h)
  | index _ hs _ hidx => exact packAdvance_inv hs hidx h

theorem step_inv {s t : State} (h : s.Inv) (ht : step s = .next t) : t.Inv := by
  rcases step_cases ht with ⟨_, rfl⟩ | ⟨_, rest, _, _, _, he⟩ | ⟨_, rest, _, _, _, rfl⟩ | ⟨_, _, _, rfl⟩
  · exact h
  · exact exec_inv (h.withHost rest) he
  · exact illegalWord_inv _ (h.withHost rest)
  · exact hardReset_inv _

/-- Settles O58: the reset state is built part by part in `reset_inv`. -/
theorem resetMeetsTheInvariant : Obligations.ResetMeetsTheInvariant := reset_inv

/-- Settles O59: each effect a command can have keeps each part of the invariant. -/
theorem stepKeepsTheInvariant : Obligations.StepKeepsTheInvariant := fun _ _ h ht => step_inv h ht

/-! # What no command can see (R25, R27)

An operation `Respects` the dead contents when it takes two states that differ there at most to two such
states. Every meaning is built of operations that do, by composition and by tests of what the two states share. -/

/-- An operation never lets the contents of unpopulated slots or invalid entries reach anything else. -/
def Respects (f : State → State) : Prop := ∀ s s' : State, SameButDead s s' → SameButDead (f s) (f s')

/-- What does not look at the slots and the entries at all is the same in both states. -/
theorem SameButDead.agree {α : Sort*} {s s' : State} (h : SameButDead s s') (g : State → α)
    (hg : ∀ (s : State) ps cat, g { s with ps := ps, cat := cat } = g s := by intros; rfl) : g s' = g s := by
  rw [h.rest, hg]

/-- The other state is the one state with other contents of its slots and entries. -/
theorem SameButDead.exists_contents {s s' : State} (h : SameButDead s s') :
    ∃ ps cat, s' = { s with ps := ps, cat := cat } :=
  ⟨s'.ps, s'.cat, h.rest⟩

theorem SameButDead.refl (s : State) : SameButDead s s := ⟨rfl, fun _ _ => rfl, fun _ _ => rfl, fun _ => rfl⟩

/-! ### How respecting operations are put together -/

theorem Respects.comp {f g : State → State} (hg : Respects g) (hf : Respects f) : Respects fun s => g (f s) :=
  fun _ _ h => hg _ _ (hf _ _ h)

/-- A choice by a test that does not look at the slots and the entries. -/
theorem Respects.ite {p : State → Prop} [DecidablePred p] {f g : State → State}
    (hf : Respects f) (hg : Respects g)
    (hp : ∀ (s : State) ps cat, p { s with ps := ps, cat := cat } = p s := by intros; rfl) :
    Respects fun s => if p s then f s else g s := by
  intro s s' h
  have hps : p s' = p s := h.agree p hp
  by_cases hs : p s
  · simpa only [hps, if_pos hs] using hf s s' h
  · simpa only [hps, if_neg hs] using hg s s' h

/-- An operand taken from outside the slots and the entries. -/
theorem Respects.operand {α : Type} {g : State → α} {f : α → State → State} (hf : ∀ a, Respects (f a))
    (hg : ∀ (s : State) ps cat, g { s with ps := ps, cat := cat } = g s := by intros; rfl) :
    Respects fun s => f (g s) s := by
  intro s s' h
  simpa only [h.agree g hg] using hf (g s) s s' h

theorem respects_id : Respects fun s => s := fun _ _ h => h

/-- An operation that neither looks at the slots and the entries nor writes them, and populates nothing. -/
theorem respects_of_commutes {f : State → State}
    (hf : ∀ (s : State) ps cat, f { s with ps := ps, cat := cat } = { f s with ps := ps, cat := cat } := by
      intros; rfl)
    (hps : ∀ s, (f s).ps = s.ps := by intros; rfl) (hcat : ∀ s, (f s).cat = s.cat := by intros; rfl)
    (hn : ∀ s, (f s).palcnt.val ≤ s.palcnt.val := by intros; exact le_rfl)
    (hp : ∀ s, (f s).catptr = s.catptr := by intros; rfl) : Respects f := by
  intro s s' ⟨rest, slots, entries, valid⟩
  have hrest : f s' = { f s with ps := s'.ps, cat := s'.cat } := by rw [← hf, ← rest]
  constructor
  case rest => rw [hps, hcat]; exact hrest
  case slots => exact fun k hk => by simpa only [hps] using slots k (lt_of_lt_of_le hk (hn s))
  case entries => exact fun e he => by simpa only [hcat] using entries e (by rwa [← hp])
  case valid => exact fun e => by simpa only [hcat] using valid e

/-! ### The operations -/

theorem respects_raise (c : Cause) (w : Word) : Respects (raise c w) := respects_of_commutes

theorem respects_markTrail : Respects markTrail := respects_of_commutes

theorem respects_beginFrame : Respects beginFrame :=
  respects_of_commutes (hn := fun _ => Nat.zero_le _)

theorem respects_regWrite (r : Reg) (v : Half) : Respects (regWrite r v) :=
  respects_of_commutes (by cases r <;> exact fun _ _ _ => rfl) (regWrite_ps r v) (regWrite_cat r v)
    (fun s => by rw [regWrite_palcnt]) (regWrite_catptr r v)

theorem respects_resetKeepingStreams : Respects resetKeepingStreams := by
  intro s s' h
  rw [h.agree resetKeepingStreams]
  exact .refl _

theorem respects_hardReset : Respects hardReset := by
  intro s s' h
  rw [h.agree hardReset]
  exact .refl _

theorem respects_illegalWord (w : Word) : Respects (illegalWord w) := by
  intro s s' h
  have hr : s'.runState = s.runState := h.agree State.runState
  by_cases hs : s.runState = .fault
  · rwa [illegalWord_fault hs, illegalWord_fault (hr.trans hs)]
  · rw [illegalWord_raises hs, illegalWord_raises (hr ▸ hs)]
    exact respects_raise _ w s s' h

theorem respects_idleOnly (w : Word) {act : State → State} (ha : Respects act) : Respects (idleOnly w act) := by
  intro s s' h
  have hr : s'.runState = s.runState := h.agree State.runState
  cases hs : s.runState <;> rw [hs] at hr
  case idle => rw [idleOnly_idle hs, idleOnly_idle hr]; exact ha s s' h
  case run => rw [idleOnly_run hs, idleOnly_run hr]; exact respects_raise _ w s s' h
  case fault => rwa [idleOnly_fault hs, idleOnly_fault hr]

theorem respects_lock : Respects fun s => { s with catlock := true } := respects_of_commutes

theorem respects_clearCatalog : Respects clearCatalog := by
  intro s s' h
  constructor
  case rest => rw [h.rest]; rfl
  case slots => exact h.slots
  case entries => exact fun e he => absurd he (Nat.not_lt_zero _)
  case valid => simp

theorem respects_writeEntry (key : Rgb) (val : Byte) : Respects (writeEntry key val) := by
  intro s s' h
  obtain ⟨ps, cat, rfl⟩ := h.exists_contents
  by_cases hlt : s.catptr.val < 256
  case neg => simpa [writeEntry, hlt] using h
  have hent := h.entries
  have hval := h.valid
  simp only [Fin.getElem_fin] at hent hval
  rw [writeEntry_below hlt, writeEntry_below (s := { s with ps := ps, cat := cat }) hlt]
  constructor
  case rest => rfl
  case slots => exact h.slots
  case entries =>
    intro e he
    have he : e.val < s.catptr.val + 1 := lt_of_lt_of_le he (Nat.mod_le _ _)
    simp only [Fin.getElem_fin, Vector.getElem_set]
    split
    · rfl
    · exact hent e (by omega)
  case valid =>
    intro e
    simp only [Fin.getElem_fin, Vector.getElem_set]
    split
    · rfl
    · exact hval e

/-! ### The palette emitter and the accumulator -/

/-- A palette byte is 0 for an unpopulated slot, whatever the slot holds (R140). -/
theorem SameButDead.paletteByte_eq {s s' : State} (h : SameButDead s s') (k : Fin 4) :
    paletteByte s' k = paletteByte s k := by
  have hn : s'.palcnt = s.palcnt := h.agree State.palcnt
  unfold paletteByte
  rw [hn]
  split
  · rw [h.slots k ‹_›]
  · rfl

/-- The search looks at populated slots only (R113). -/
theorem SameButDead.slotOf_eq {s s' : State} (h : SameButDead s s') (rgb : Rgb) : slotOf rgb s' = slotOf rgb s := by
  have hn : s'.palcnt = s.palcnt := h.agree State.palcnt
  unfold slotOf
  congr 1
  funext k
  rw [hn]
  by_cases hk : k.val < s.palcnt.val
  · rw [h.slots k hk]
  · simp [hk]

/-- The loaded entries are the valid ones, and a lookup looks at these only (R94). -/
theorem SameButDead.catLookup_eq {s s' : State} (h : SameButDead s s') (rgb : Rgb) :
    catLookup s' rgb = catLookup s rgb := by
  have hp : s'.catptr = s.catptr := h.agree State.catptr
  have hl : loaded s' = loaded s := by
    refine List.ext_getElem (by rw [loaded_length, loaded_length, hp]) fun e h' he => ?_
    rw [loaded_length] at he
    have h256 : e < 256 := by omega
    rw [loaded_getElem s' ⟨e, h256⟩ (hp ▸ he), loaded_getElem s ⟨e, h256⟩ he, h.entries ⟨e, h256⟩ he]
  rw [catLookup, hl, catLookup]

theorem respects_emitPalette : Respects emitPalette := by
  intro s s' h
  refine ⟨?_, h.slots, h.entries, h.valid⟩
  simp only [emitPalette, h.paletteByte_eq]
  rw [h.rest]

theorem respects_populate (key : Rgb) (hw : Byte) : Respects (populate key hw) := by
  intro s s' h
  obtain ⟨ps, cat, rfl⟩ := h.exists_contents
  by_cases hlt : s.palcnt.val < 4
  case neg => simpa [populate, hlt] using h
  have hslots := h.slots
  simp only [Fin.getElem_fin] at hslots
  rw [populate_below hlt, populate_below (s := { s with ps := ps, cat := cat }) hlt]
  constructor
  case rest => rfl
  case slots =>
    intro k hk
    have hk : k.val < s.palcnt.val + 1 := lt_of_lt_of_le hk (Nat.mod_le _ _)
    simp only [Fin.getElem_fin, Vector.getElem_set]
    split
    · rfl
    · exact hslots k (by omega)
  case entries => exact h.entries
  case valid => exact h.valid

theorem respects_reportUnreachable (rgb : Rgb) : Respects (reportUnreachable rgb) := respects_of_commutes

theorem respects_reportOverflow (rgb : Rgb) : Respects (reportOverflow rgb) :=
  .ite respects_id respects_of_commutes

theorem respects_allocate (rgb : Rgb) : Respects (allocate rgb) := by
  intro s s' h
  rw [allocate_slots, allocate_slots, h.catLookup_eq]
  cases catLookup s rgb with
  | some val => exact respects_populate rgb val s s' h
  | none => exact (respects_reportUnreachable rgb).comp (respects_populate rgb 0) s s' h

/-- The two states give a colour the same index and go on alike (R113). -/
theorem SameButDead.accumulate_agree {s s' : State} (h : SameButDead s s') (rgb : Rgb) :
    (accumulate rgb s').1 = (accumulate rgb s).1 ∧ SameButDead (accumulate rgb s).2 (accumulate rgb s').2 := by
  have hn : s'.palcnt = s.palcnt := h.agree State.palcnt
  unfold accumulate
  rw [h.slotOf_eq, hn]
  cases slotOf rgb s with
  | some k => exact ⟨rfl, h⟩
  | none =>
    by_cases h4 : s.palcnt.val < 4
    · rw [if_pos h4, if_pos h4]; exact ⟨rfl, respects_allocate rgb s s' h⟩
    · rw [if_neg h4, if_neg h4]; exact ⟨rfl, respects_reportOverflow rgb s s' h⟩

/-! ### The packer and the raster -/

theorem respects_pack (idx : Index) : Respects (pack idx) :=
  .ite respects_of_commutes respects_of_commutes

theorem respects_lineEnd : Respects lineEnd := by
  have hempty : Respects fun s => { s with palcnt := 0, ovfl := false } :=
    respects_of_commutes (hn := fun _ => Nat.zero_le _)
  exact .ite (hempty.comp respects_emitPalette) respects_id

theorem respects_frameEnd : Respects frameEnd := by
  have hend : Respects fun s => { s with runState := .idle, done := true } := respects_of_commutes
  exact hend.comp (.ite respects_emitPalette respects_id)

theorem respects_advance : Respects advance := by
  have hx : Respects fun s => { s with xpos := s.xpos + 1 } := respects_of_commutes
  have hy : Respects fun s => { s with xpos := 0, ypos := s.ypos + 1 } := respects_of_commutes
  have hnext : Respects nextLine := .ite (respects_frameEnd.comp hy) hy
  exact .ite (hnext.comp (respects_lineEnd.comp hx)) hx

theorem respects_packAdvance (idx : Index) : Respects (packAdvance idx) :=
  respects_advance.comp (respects_pack idx)

theorem respects_pixelFrame (w : Word) {accepted : State → Bool} {act : State → State}
    (ha : Respects act)
    (hb : ∀ (s : State) ps cat, accepted { s with ps := ps, cat := cat } = accepted s := by intros; rfl) :
    Respects fun s => pixelFrame w (accepted s) act s := by
  intro s s' h
  have hr : s'.runState = s.runState := h.agree State.runState
  have hacc : accepted s' = accepted s := h.agree accepted hb
  simp only [hacc]
  cases hs : s.runState <;> rw [hs] at hr
  case idle => rw [pixelFrame_idle hs, pixelFrame_idle hr]; exact respects_markTrail s s' h
  case fault => rwa [pixelFrame_fault hs, pixelFrame_fault hr]
  case run =>
    cases accepted s
    · rw [pixelFrame_rejects hs, pixelFrame_rejects hr]; exact respects_raise _ w s s' h
    · rw [pixelFrame_accepts hs, pixelFrame_accepts hr]; exact ha s s' h

/-! ### Commands and steps -/

/-- The meaning of every command is one respecting operation. -/
theorem exec_respects (i : Instr) : ∃ f, Respects f ∧ ∀ s, exec i s = .next (f s) := by
  cases i
  case nop => exact ⟨_, respects_id, fun _ => rfl⟩
  case srst => exact ⟨_, respects_resetKeepingStreams, fun _ => rfl⟩
  case wr r v =>
    exact ⟨_, .ite (p := fun _ => r.writable = true) (respects_idleOnly _ (respects_regWrite r v))
      (respects_illegalWord _), fun _ => rfl⟩
  case rd r =>
    refine ⟨fun s => { s with rsp := s.rsp ++ [(regRead s r).setWidth 32] }, ?_, fun _ => rfl⟩
    exact respects_of_commutes (hf := by cases r <;> exact fun _ _ _ => rfl)
  case catclr =>
    exact ⟨_, respects_idleOnly _ (.ite (respects_raise _ _) respects_clearCatalog), fun _ => rfl⟩
  case catk rgb =>
    have hw : Respects fun s => writeEntry rgb (s.catval.extractLsb' 0 8) s :=
      .operand (g := fun s => s.catval.extractLsb' 0 8) (respects_writeEntry rgb)
    exact ⟨_, respects_idleOnly _ (.ite (respects_raise _ _) (.ite (respects_raise _ _) hw)), fun _ => rfl⟩
  case catlock =>
    exact ⟨_, respects_idleOnly _ (.ite respects_id (.ite (respects_raise _ _) respects_lock)), fun _ => rfl⟩
  case start =>
    exact ⟨_, respects_idleOnly _ (.ite (respects_raise _ _) (.ite (respects_raise _ _)
      (.ite (respects_raise _ _) (.ite (respects_raise _ _) respects_beginFrame)))), fun _ => rfl⟩
  case fend =>
    refine ⟨fun s => if s.runState = .run then raise .malformedInput (encode .fend) s else s,
      .ite (respects_raise _ _) respects_id, fun s => ?_⟩
    cases hs : s.runState <;> simp [exec, execFend, hs]
  case pxg i =>
    exact ⟨_, respects_pixelFrame _ (.operand (g := greyIndex i) respects_packAdvance), fun _ => rfl⟩
  case pxc rgb =>
    refine ⟨_, respects_pixelFrame _ ?_, fun _ => rfl⟩
    intro s s' h
    obtain ⟨hidx, hacc⟩ := h.accumulate_agree rgb
    simpa only [hidx] using respects_packAdvance (accumulate rgb s).1 _ _ hacc
  case pxi idx =>
    exact ⟨_, respects_pixelFrame _ (.ite (respects_raise _ _) (respects_packAdvance idx)), fun _ => rfl⟩

theorem runWord_respects (w : Word) : ∃ f, Respects f ∧ ∀ s, runWord w s = .next (f s) := by
  unfold runWord
  cases decode w with
  | legal i => exact exec_respects i
  | illegal _ => exact ⟨_, respects_illegalWord w, fun _ => rfl⟩

theorem respects_setHost (host : List HostEvent) : Respects fun s => { s with host := host } := respects_of_commutes

/-- Settles O60: the host's next action is the same in both states, and it acts as one respecting operation. -/
theorem deadContentsAreNeverRead : Obligations.DeadContentsAreNeverRead := by
  intro s s' t h ht
  have hh : s'.host = s.host := h.agree State.host
  cases hhost : s.host with
  | nil =>
    rw [step_empty hhost] at ht
    cases ht
    exact ⟨s', step_empty (hh.trans hhost), h⟩
  | cons e rest =>
    have htail := respects_setHost rest s s' h
    cases e with
    | word w =>
      obtain ⟨f, hf, hrun⟩ := runWord_respects w
      rw [step_word hhost, hrun] at ht
      cases ht
      exact ⟨_, (step_word (hh.trans hhost)).trans (hrun _), hf _ _ htail⟩
    | reset lost =>
      rw [step_reset hhost] at ht
      cases ht
      exact ⟨_, step_reset (hh.trans hhost), respects_hardReset _ _ htail⟩

end Sys2Proof.Machine

/-! # Pixel words (R61, R62) -/

namespace Sys2Proof

theorem decode_encode_pxg (i : Byte) : decode (encode (.pxg i)) = .legal (.pxg i) := by
  have := i.isLt
  have hres : (encode (.pxg i)).extractLsb' 8 16 = 0 := by
    apply BitVec.eq_of_toNat_eq
    rw [greyReserved_toNat, encode_toNat, payloadOf_pxg_toNat]
    simp [opcodeOf]
    omega
  have hfield : greyField (encode (.pxg i)) = i := by
    apply BitVec.eq_of_toNat_eq
    rw [greyField_toNat, encode_toNat, payloadOf_pxg_toNat]
    omega
  rw [decode_pxg (opField_encode _), decodePxg, if_pos hres, hfield]

theorem decode_encode_pxc (rgb : Rgb) : decode (encode (.pxc rgb)) = .legal (.pxc rgb) := by
  rw [decode_pxc (opField_encode _), payload_encode]
  rfl

theorem decode_encode_pxi (idx : Index) : decode (encode (.pxi idx)) = .legal (.pxi idx) := by
  have := idx.isLt
  have hres : (encode (.pxi idx)).extractLsb' 4 20 = 0 := by
    apply BitVec.eq_of_toNat_eq
    rw [indexReserved_toNat, encode_toNat, payloadOf_pxi_toNat]
    simp [opcodeOf]
    omega
  have hfield : indexField (encode (.pxi idx)) = idx := by
    apply BitVec.eq_of_toNat_eq
    rw [indexField_toNat, encode_toNat, payloadOf_pxi_toNat]
    omega
  rw [decode_pxi (opField_encode _), decodePxi, if_pos hres, hfield]

theorem decode_encode_acceptedPixel {ctrl : Half} {i : Instr} (h : Machine.acceptedPixel ctrl i = true) :
    decode (encode i) = .legal i := by
  cases i with
  | pxg i => exact decode_encode_pxg i
  | pxc rgb => exact decode_encode_pxc rgb
  | pxi idx => exact decode_encode_pxi idx
  | nop | srst | wr | rd | catclr | catk | catlock | start | fend => simp [Machine.acceptedPixel] at h

end Sys2Proof

/-! # A frame from pixel to pixel (R48, R53, R105)

The position, the bytes on `PIXOUT` and the bytes on `PALOUT` grow together: `FrameProgress` relates two states of
one frame, every step that keeps the frame alive makes such progress, and the counts of a whole frame are its
endpoints. -/

namespace Sys2Proof.Machine

/-! ### Runs of steps -/

/-- The last step of a run. -/
theorem steps_succ_last {s t : State} {n : Nat} :
    steps (n + 1) s = .next t ↔ ∃ u, steps n s = .next u ∧ step u = .next t := by
  induction n generalizing s with
  | zero => cases h : step s <;> simp [steps, h]
  | succ n ih =>
    rw [steps]
    cases h : step s with
    | next u => simp only [ih, steps_succ n h]
    | fault r | refused r => simp [steps, h]

/-- A run of steps each of which takes an indexed predicate on by one. -/
theorem steps_of_indexed {I : Nat → State → Prop} {s : State} {n : Nat} (h0 : I 0 s)
    (hstep : ∀ m < n, ∀ u, I m u → ∃ v, step u = .next v ∧ I (m + 1) v) : ∃ t, steps n s = .next t ∧ I n t := by
  induction n with
  | zero => exact ⟨s, rfl, h0⟩
  | succ n ih =>
    obtain ⟨u, hu, hIu⟩ := ih fun m hm => hstep m (by omega)
    obtain ⟨t, ht, hIt⟩ := hstep n (by omega) u hIu
    exact ⟨t, steps_succ_last.mpr ⟨u, hu, ht⟩, hIt⟩

/-! ### Where a frame stands -/

/-- The frame runs on, or its last pixel has just completed it (R107). -/
def FrameLive (s : State) : Prop := s.runState = .run ∨ FrameCompleted s ∧ s.ypos = s.height

/-- The number of the next pixel of a running frame is below the frame's size. -/
theorem RasterOk.position_lt {s : State} (h : RasterOk s) (hs : s.runState = .run) : s.position < s.frameSize := by
  obtain ⟨hx, hy⟩ := h.inside hs
  have hx : s.xpos.toNat < s.width.toNat := hx
  have hy : s.ypos.toNat + 1 ≤ s.height.toNat := hy
  calc s.position < s.ypos.toNat * s.width.toNat + s.width.toNat := Nat.add_lt_add_left hx _
    _ = (s.ypos.toNat + 1) * s.width.toNat := by ring
    _ ≤ s.height.toNat * s.width.toNat := Nat.mul_le_mul_right _ hy
    _ = s.frameSize := Nat.mul_comm _ _

/-- After the last pixel every pixel of the frame is counted. -/
theorem RasterOk.position_completed {s : State} (h : RasterOk s) (hs : s.runState = .idle)
    (hy : s.ypos = s.height) : s.position = s.frameSize := by
  simp [State.position, State.frameSize, (h.idle hs).1, hy, Nat.mul_comm]

theorem FrameLive.run_of_position_lt {s : State} (hl : FrameLive s) (h : RasterOk s)
    (hp : s.position < s.frameSize) : s.runState = .run := by
  rcases hl with hs | ⟨⟨hs, _⟩, hy⟩
  · exact hs
  · exact absurd (h.position_completed hs hy) (by omega)

theorem FrameLive.completed_of_position_eq {s : State} (hl : FrameLive s) (h : RasterOk s)
    (hp : s.position = s.frameSize) : FrameCompleted s ∧ s.ypos = s.height := by
  rcases hl with hs | hc
  · exact absurd (h.position_lt hs) (by omega)
  · exact hc

/-! ### What progress in a frame is -/

/-- The palettes a frame has emitted at its present position (R53, R141). -/
def palettesSoFar (s : State) : Nat :=
  if s.modeNum = 5 then s.ypos.toNat
  else if s.modeNum = 4 then
    match s.runState with
    | .idle => 1
    | .run | .fault => 0
  else 0

theorem modeNum_congr {s t : State} (hc : t.ctrl = s.ctrl) : t.modeNum = s.modeNum := by
  simp [State.modeNum, hc]

theorem palettesSoFar_congr {s t : State} (hc : t.ctrl = s.ctrl) (hy : t.ypos = s.ypos)
    (hs : t.runState = s.runState) : palettesSoFar t = palettesSoFar s := by
  simp only [palettesSoFar, modeNum_congr hc, hy, hs]

theorem palettesSoFar_run {s : State} (hs : s.runState = .run) :
    palettesSoFar s = if s.modeNum = 5 then s.ypos.toNat else 0 := by
  simp [palettesSoFar, hs]

theorem palettesSoFar_idle {s : State} (hs : s.runState = .idle) :
    palettesSoFar s = if s.modeNum = 5 then s.ypos.toNat else if s.modeNum = 4 then 1 else 0 := by
  simp [palettesSoFar, hs]

/-- `t` is a later state of the frame of `s`: the configuration stands, and `PIXOUT` with `PACC` and `PALOUT` have
grown as the position has. -/
structure FrameProgress (s t : State) : Prop where
  ctrl : t.ctrl = s.ctrl
  width : t.width = s.width
  height : t.height = s.height
  pixels : t.pixout.length * ppb s.ctrl + t.pcnt.val + s.position =
    s.pixout.length * ppb s.ctrl + s.pcnt.val + t.position
  palettes : t.palout.length + 4 * palettesSoFar s = s.palout.length + 4 * palettesSoFar t

theorem FrameProgress.refl (s : State) : FrameProgress s s := ⟨rfl, rfl, rfl, rfl, rfl⟩

theorem FrameProgress.trans {s t u : State} (h : FrameProgress s t) (h' : FrameProgress t u) : FrameProgress s u where
  ctrl := h'.ctrl.trans h.ctrl
  width := h'.width.trans h.width
  height := h'.height.trans h.height
  pixels := by
    have := h.pixels
    have := h'.pixels
    rw [h.ctrl] at this
    omega
  palettes := by
    have := h.palettes
    have := h'.palettes
    omega

theorem FrameProgress.frameSize {s t : State} (h : FrameProgress s t) : t.frameSize = s.frameSize := by
  simp [State.frameSize, h.width, h.height]

/-- `t` is `s` after one accepted pixel command (R110). -/
structure PixelDone (s t : State) : Prop extends FrameProgress s t where
  host : t.host = s.host
  position : t.position = s.position + 1
  live : FrameLive t

/-! ### One pixel -/

/-- One more pixel is in `PIXOUT` or in `PACC` (R130). -/
theorem pack_count {s : State} (idx : Index) (hs : s.runState = .run) (h : RasterOk s) :
    (pack idx s).pixout.length * ppb s.ctrl + (pack idx s).pcnt.val =
      s.pixout.length * ppb s.ctrl + s.pcnt.val + 1 := by
  by_cases hfull : s.pcnt.val + 1 = ppb s.ctrl
  · rw [pack_full hfull]
    simp only [List.length_append, List.length_singleton, Nat.add_mul, Nat.one_mul]
    exact congrArg _ hfull.symm
  · have hcnt := (h.packer hs).1
    rw [pack_partial hfull]
    simp only [Fin.val_ofNat]
    rcases bpp_cases (h.config hs).1 with ⟨_, hp⟩ | ⟨_, hp⟩ | ⟨_, hp⟩ <;> rw [hp] at hcnt hfull ⊢ <;> omega

/-- The raster advance counts one pixel, at a scanline end too (R105). -/
theorem advance_position {s : State} (hx : s.xpos < s.width) (hy : s.ypos < s.height) :
    (advance s).position = s.position + 1 := by
  have hxn : (s.xpos + 1).toNat = s.xpos.toNat + 1 := by bv_omega
  have hyn : (s.ypos + 1).toNat = s.ypos.toNat + 1 := by bv_omega
  have hrow (hw : s.xpos + 1 = s.width) : (s.ypos + 1).toNat * s.width.toNat = s.position + 1 := by
    rw [State.position, hyn, Nat.add_mul, Nat.one_mul, Nat.add_assoc, ← hxn, hw]
  rcases advance_cases s with ⟨_, e⟩ | ⟨hw, _, e⟩ | ⟨hw, _, e⟩ <;> rw [e]
  · exact congrArg (s.ypos.toNat * s.width.toNat + ·) hxn
  · simpa [State.position] using hrow hw
  · simpa [State.position] using hrow hw

/-- Where a running frame is after the raster advance (R105 to R107). -/
theorem advance_live {s : State} (hs : s.runState = .run) : FrameLive (advance s) := by
  rcases advance_cases s with ⟨_, e⟩ | ⟨_, _, e⟩ | ⟨_, hy, e⟩ <;> rw [e]
  · exact .inl hs
  · exact .inl (by simpa using hs)
  · exact .inr ⟨⟨rfl, rfl⟩, by simpa using hy⟩

@[simp] theorem lineEnd_palout_length (s : State) :
    (lineEnd s).palout.length = s.palout.length + if s.modeNum = 5 then 4 else 0 := by
  by_cases h : s.modeNum = 5
  · simp [lineEnd_line (modeOf_line.mpr h), emitPalette, h]
  · simp [lineEnd_other (mt modeOf_line.mp h), h]

@[simp] theorem frameEnd_palout_length (s : State) :
    (frameEnd s).palout.length = s.palout.length + if s.modeNum = 4 then 4 else 0 := by
  by_cases h : s.modeNum = 4
  · simp [frameEnd_glob (modeOf_glob.mpr h), emitPalette, h]
  · simp [frameEnd_other (mt modeOf_glob.mp h), h]

/-- The raster advance emits a palette when one is due (R141, R142). -/
theorem advance_palettes {s : State} (hs : s.runState = .run) (hy : s.ypos < s.height) :
    (advance s).palout.length + 4 * palettesSoFar s = s.palout.length + 4 * palettesSoFar (advance s) := by
  have hyn : (s.ypos + 1).toNat = s.ypos.toNat + 1 := by bv_omega
  have hm : (advance s).modeNum = s.modeNum := modeNum_congr (advance_ctrl s)
  rcases advance_cases s with ⟨_, e⟩ | ⟨_, _, e⟩ | ⟨_, _, e⟩
  · rw [e]
    rfl
  · have hlen : (advance s).palout.length = s.palout.length + if s.modeNum = 5 then 4 else 0 := by
      rw [e]
      exact lineEnd_palout_length _
    have hrow : (advance s).ypos.toNat = s.ypos.toNat + 1 := by rw [e]; exact hyn
    rw [palettesSoFar_run hs, palettesSoFar_run (by simpa [e] using hs), hm, hlen, hrow]
    split <;> omega
  · have hlen : (advance s).palout.length =
        s.palout.length + (if s.modeNum = 5 then 4 else 0) + if s.modeNum = 4 then 4 else 0 := by
      rw [e, frameEnd_palout_length, modeNum_congr (s := s) (by simp)]
      exact congrArg (· + _) (lineEnd_palout_length _)
    have hrow : (advance s).ypos.toNat = s.ypos.toNat + 1 := by rw [e, frameEnd_ypos]; exact hyn
    rw [palettesSoFar_run hs, palettesSoFar_idle (by simp [e]), hm, hlen, hrow]
    split <;> split <;> omega

theorem packAdvance_pixelDone {s : State} {idx : Index} (hs : s.runState = .run) (h : RasterOk s) :
    PixelDone s (packAdvance idx s) := by
  obtain ⟨hx, hy⟩ := h.inside hs
  have hpos : (packAdvance idx s).position = s.position + 1 :=
    (advance_position (by simpa using hx) (by simpa using hy)).trans (by simp [State.position])
  exact
    { ctrl := by simp [packAdvance]
      width := by simp [packAdvance]
      height := by simp [packAdvance]
      pixels := by
        have := pack_count idx hs h
        rw [hpos]
        simp only [packAdvance, advance_pixout, advance_pcnt]
        omega
      palettes := by
        have := advance_palettes (s := pack idx s) (by simpa using hs) (by simpa using hy)
        rwa [palettesSoFar_congr (s := s) (by simp) (by simp) (by simp), pack_palout] at this
      host := by simp [packAdvance]
      position := hpos
      live := advance_live (by simpa using hs) }

/-- The accumulator moves nothing that `PixelDone` speaks of (R113). -/
theorem PixelDone.of_accumulate {s t : State} {rgb : Rgb} (h : PixelDone (accumulate rgb s).2 t) : PixelDone s t where
  ctrl := by simpa using h.ctrl
  width := by simpa using h.width
  height := by simpa using h.height
  pixels := by simpa [State.position] using h.pixels
  palettes := by
    have := h.palettes
    rwa [palettesSoFar_congr (s := s) (by simp) (by simp) (by simp), accumulate_palout] at this
  host := by simpa using h.host
  position := by simpa [State.position] using h.position
  live := h.live

theorem accumulate_rasterOk {s : State} (rgb : Rgb) (h : RasterOk s) :
    RasterOk (accumulate rgb s).2 where
  idle := by simpa using h.idle
  config := by simpa using h.config
  inside := by simpa using h.inside
  packer := by simpa using h.packer

theorem color_pixelDone {s : State} (rgb : Rgb) (hs : s.runState = .run) (h : RasterOk s) :
    PixelDone s (packAdvance (accumulate rgb s).1 (accumulate rgb s).2) :=
  .of_accumulate (packAdvance_pixelDone (by simpa using hs) (accumulate_rasterOk rgb h))

/-! ### One command (R85, R110, R133) -/

theorem exec_pxi_fits {s : State} {idx : Index} (hs : s.runState = .run)
    (ha : acceptedPixel s.ctrl (.pxi idx) = true) : exec (.pxi idx) s = .next (packAdvance idx s) := by
  obtain ⟨hmode, hidx⟩ : acceptsIndex (modeOf s.ctrl) = true ∧ idx.toNat < 2 ^ bpp s.ctrl := by
    simpa [acceptedPixel] using ha
  simp [exec, execPxi, pixelFrame, hs, hmode, hidx]

/-- An accepted pixel command in a running frame is one pixel of it (R110). -/
theorem exec_acceptedPixel {s : State} {i : Instr} (hs : s.runState = .run) (h : RasterOk s)
    (ha : acceptedPixel s.ctrl i = true) : ∃ t, exec i s = .next t ∧ PixelDone s t := by
  cases i with
  | pxg i =>
    have hmode : acceptsGrey (modeOf s.ctrl) = true := ha
    exact ⟨_, by rw [exec, execPxg, hmode, pixelFrame_accepts hs], packAdvance_pixelDone hs h⟩
  | pxc rgb =>
    have hmode : acceptsColor (modeOf s.ctrl) = true := ha
    exact ⟨_, by rw [exec, execPxc, hmode, pixelFrame_accepts hs], color_pixelDone rgb hs h⟩
  | pxi idx => exact ⟨_, exec_pxi_fits hs ha, packAdvance_pixelDone hs h⟩
  | nop | srst | wr | rd | catclr | catk | catlock | start | fend => simp [acceptedPixel] at ha

/-- Where a frame can go in one step or more: it runs on, or it completes. Neither a fault nor a reset leads
there. -/
def FrameContinues (s : State) : Prop := s.runState = .run ∨ FrameCompleted s

/-- A command that neither fails nor abandons a running frame makes progress in it. -/
theorem exec_progress {s t : State} {i : Instr} (hs : s.runState = .run) (h : RasterOk s)
    (he : exec i s = .next t) (hc : FrameContinues t) : FrameProgress s t ∧ FrameLive t := by
  have ofPixel {t : State} (hp : PixelDone s t) : FrameProgress s t ∧ FrameLive t := ⟨hp.toFrameProgress, hp.live⟩
  cases exec_effect he with
  | nothing => exact ⟨.refl s, .inl hs⟩
  | read => exact ⟨⟨rfl, rfl, rfl, rfl, rfl⟩, .inl hs⟩
  | grey | index => exact ofPixel (packAdvance_pixelDone hs h)
  | color rgb => exact ofPixel (color_pixelDone rgb hs h)
  | fault => simp [FrameContinues, FrameCompleted] at hc
  | reset => simp [FrameContinues, FrameCompleted, resetKeepingStreams, State.reset] at hc
  | write _ _ hidle | clear hidle | append _ hidle | lock hidle | begin hidle | trail _ hidle => simp [hs] at hidle

/-- What the frame knows of a state does not depend on what the host will do next. -/
theorem FrameProgress.of_withHost {s t : State} {host : List HostEvent} (h : FrameProgress { s with host := host } t) :
    FrameProgress s t := { h with }

/-- A step that neither fails nor abandons a running frame makes progress in it. -/
theorem step_progress {s t : State} (hs : s.runState = .run) (h : RasterOk s) (ht : step s = .next t)
    (hc : FrameContinues t) : FrameProgress s t ∧ FrameLive t := by
  obtain ⟨_, rfl⟩ | ⟨_, rest, _, _, _, he⟩ | ⟨_, _, _, _, _, rfl⟩ | ⟨_, _, _, rfl⟩ := step_cases ht
  · exact ⟨.refl _, .inl hs⟩
  · exact (exec_progress (s := { s with host := rest }) hs { h with } he hc).imp_left .of_withHost
  · rw [illegalWord_raises (by simp [hs])] at hc
    simp [FrameContinues, FrameCompleted] at hc
  · simp [FrameContinues, FrameCompleted, State.reset] at hc

/-- The progress of a whole run that stays in the frame. -/
theorem steps_progress {s t : State} {n : Nat} (hs : s.runState = .run) (h : s.Inv) (hruns : RunsFor n s)
    (ht : steps n s = .next t) (hc : FrameContinues t) : FrameProgress s t ∧ FrameLive t ∧ t.Inv := by
  induction n generalizing t with
  | zero =>
    cases ht
    exact ⟨.refl s, .inl hs, h⟩
  | succ n ih =>
    obtain ⟨u, hu, hstep⟩ := steps_succ_last.mp ht
    obtain ⟨_, hu', hrun⟩ := hruns n (by omega)
    cases hu.symm.trans hu'
    obtain ⟨hsu, -, hinv⟩ := ih (fun m hm => hruns m (by omega)) hu (.inl hrun)
    obtain ⟨hut, hlive⟩ := step_progress hrun hinv.raster hstep hc
    exact ⟨hsu.trans hut, hlive, step_inv hinv hstep⟩

/-- A frame at its first pixel has an empty packer (R29, R101). -/
theorem RasterOk.start {s : State} (h : RasterOk s) (hs : s.runState = .run) (hx : s.xpos = 0) : s.pcnt.val = 0 := by
  simpa [hx] using (h.packer hs).1

/-- Settles O31: the packer and the palette emitter keep pace with the position, which ends at the frame's size. -/
theorem completedFrameByteCounts : Obligations.CompletedFrameByteCounts := by
  intro s t n h hs hx hy hruns ht hdone
  obtain ⟨hprog, hlive, hinv⟩ := steps_progress hs h hruns ht (.inr hdone)
  obtain ⟨hidle, -⟩ := hdone
  have hrow : t.ypos = t.height := by
    rcases hlive with hrun | ⟨_, hrow⟩
    · simp [hidle] at hrun
    · exact hrow
  constructor
  · have hppb : 0 < ppb s.ctrl := by rcases bpp_cases (h.raster.config hs).1 with h | h | h <;> omega
    obtain ⟨q, hq⟩ := Nat.dvd_of_mod_eq_zero (h.raster.config hs).2.1
    have hsize : t.position = ppb s.ctrl * q * s.height.toNat := by
      rw [hinv.raster.position_completed hidle hrow, hprog.frameSize, State.frameSize, hq]
    have hpix := hprog.pixels
    have hzero : s.position = 0 := by simp [State.position, hx, hy]
    rw [(hinv.raster.idle hidle).2.1, h.raster.start hs hx, hsize, hzero] at hpix
    rw [hq, Nat.mul_div_cancel_left q hppb]
    refine Nat.eq_of_mul_eq_mul_right hppb ?_
    calc t.pixout.length * ppb s.ctrl
      _ = s.pixout.length * ppb s.ctrl + ppb s.ctrl * q * s.height.toNat := by simpa using hpix
      _ = (s.pixout.length + q * s.height.toNat) * ppb s.ctrl := by ring
  · have hpal := hprog.palettes
    rw [palettesSoFar_run hs, palettesSoFar_idle hidle, modeNum_congr hprog.ctrl, hrow, hprog.height] at hpal
    have hfirst : s.ypos.toNat = 0 := by simp [hy]
    rw [paletteBytes]
    split_ifs at hpal ⊢ <;> omega

/-! ### A run of pixels (R48) -/

/-- `u` is the frame of `s` after the first `n` of the host's pixel commands. -/
structure FrameAt (s : State) (pixels : List Instr) (rest : List HostEvent) (n : Nat) (u : State) : Prop where
  inv : u.Inv
  live : FrameLive u
  progress : FrameProgress s u
  position : u.position = s.position + n
  host : u.host = (pixels.drop n).map (fun i => .word (encode i)) ++ rest

theorem FrameAt.zero {s : State} {pixels : List Instr} {rest : List HostEvent} (h : s.Inv) (hs : s.runState = .run)
    (hh : s.host = pixels.map (fun i => .word (encode i)) ++ rest) : FrameAt s pixels rest 0 s :=
  ⟨h, .inl hs, .refl s, rfl, hh⟩

theorem FrameAt.running {s u : State} {pixels : List Instr} {rest : List HostEvent} {n : Nat}
    (h : FrameAt s pixels rest n u) (hn : s.position + n < s.frameSize) : u.runState = .run :=
  h.live.run_of_position_lt h.inv.raster (by rw [h.position, h.progress.frameSize]; exact hn)

/-- The next pixel command of the host takes the frame one pixel on. -/
theorem FrameAt.step {s u : State} {pixels : List Instr} {rest : List HostEvent} {n : Nat}
    (h : FrameAt s pixels rest n u) (hn : n < pixels.length) (hsize : s.position + n < s.frameSize)
    (ha : acceptedPixel s.ctrl pixels[n] = true) :
    ∃ host v, step u = .next v ∧ exec pixels[n] { u with host := host } = .next v ∧
      FrameAt s pixels rest (n + 1) v := by
  have hhost : u.host = .word (encode pixels[n]) :: ((pixels.drop (n + 1)).map (fun i => .word (encode i)) ++ rest) := by
    rw [h.host, List.drop_eq_getElem_cons hn]
    rfl
  generalize hrest : (pixels.drop (n + 1)).map (fun i => HostEvent.word (encode i)) ++ rest = later at hhost
  have hinv := h.inv.withHost later
  obtain ⟨v, hv, hp⟩ := exec_acceptedPixel (s := { u with host := later }) (h.running hsize) hinv.raster
    (by rw [h.progress.ctrl]; exact ha)
  refine ⟨later, v, ?_, hv, ?_⟩
  · rw [step_word hhost, runWord, decode_encode_acceptedPixel ha]
    exact hv
  · exact
      { inv := exec_inv hinv hv
        live := hp.live
        progress := h.progress.trans hp.toFrameProgress.of_withHost
        position := by rw [hp.position, ← Nat.add_assoc, ← h.position]; rfl
        host := hp.host.trans hrest.symm }

/-- The host's pixel commands, none of them beyond the frame, take the frame as many pixels on. -/
theorem steps_pixels {s : State} {pixels : List Instr} {rest : List HostEvent} (h : s.Inv) (hs : s.runState = .run)
    (ha : ∀ i ∈ pixels, acceptedPixel s.ctrl i = true)
    (hh : s.host = pixels.map (fun i => .word (encode i)) ++ rest)
    (hsize : s.position + pixels.length ≤ s.frameSize) :
    ∃ t, steps pixels.length s = .next t ∧ FrameAt s pixels rest pixels.length t := by
  refine steps_of_indexed (FrameAt.zero h hs hh) fun n hn u hu => ?_
  obtain ⟨_, v, hv, _, hat⟩ := hu.step hn (by omega) (ha _ (List.getElem_mem hn))
  exact ⟨v, hv, hat⟩

/-- Settles O28: the position counts the pixels, and the column stays below the width. -/
theorem pixelNumberGivesThePosition : Obligations.PixelNumberGivesThePosition := by
  intro s pixels rest h hs hx hy ha hh hsize
  have hzero : s.position = 0 := by simp [State.position, hx, hy]
  obtain ⟨t, ht, hat⟩ := steps_pixels h hs ha hh (by omega)
  have hrun := hat.running (by omega)
  have hcol : t.xpos.toNat < s.width.toNat := hat.progress.width ▸ (hat.inv.raster.inside hrun).1
  have hpos : pixels.length = s.width.toNat * t.ypos.toNat + t.xpos.toNat := by
    have := hat.position
    rw [hzero, Nat.zero_add, State.position, hat.progress.width, Nat.mul_comm] at this
    exact this.symm
  refine ⟨t, ht, hrun, by simpa using hat.host, ?_, ?_⟩
  · rw [hpos, Nat.mul_add_mod, Nat.mod_eq_of_lt hcol]
  · rw [hpos, Nat.mul_add_div (by omega), Nat.div_eq_of_lt hcol, Nat.add_zero]

end Sys2Proof.Machine

/-! # The bytes of a `RAW` frame (R48, R131) -/

namespace Sys2Proof.Machine

/-- The number `v` holds the indices `l` in fields of `b` bits, the first most significant (R131). -/
def HoldsFields (b v : Nat) (l : List Index) : Prop :=
  ∀ k, ∀ h : k < l.length, v / 2 ^ (b * (l.length - 1 - k)) % 2 ^ b = (l[k]).toNat

/-- One more index shifted in is one more field, the least significant. -/
theorem HoldsFields.push {b v : Nat} {l : List Index} {idx : Index} (h : HoldsFields b v l)
    (hidx : idx.toNat < 2 ^ b) : HoldsFields b (v * 2 ^ b ||| idx.toNat) (l ++ [idx]) := by
  have hor : v * 2 ^ b ||| idx.toNat = v * 2 ^ b + idx.toNat := by
    rw [← Nat.shiftLeft_eq, Nat.shiftLeft_add_eq_or_of_lt hidx]
  intro k hk
  rw [List.length_append, List.length_singleton] at hk ⊢
  rw [hor, Nat.add_sub_cancel]
  rcases Nat.lt_succ_iff_lt_or_eq.mp hk with hlt | rfl
  · have hexp : b * (l.length - k) = b + b * (l.length - 1 - k) := by
      rw [show l.length - k = 1 + (l.length - 1 - k) by omega, Nat.mul_add, Nat.mul_one]
    have hdiv : (v * 2 ^ b + idx.toNat) / 2 ^ b = v := by
      rw [Nat.mul_comm, Nat.mul_add_div (by positivity), Nat.div_eq_of_lt hidx, Nat.add_zero]
    rw [hexp, pow_add, ← Nat.div_div_eq_div_mul, hdiv, List.getElem_append_left hlt]
    exact h k hlt
  · simp [Nat.mul_comm v, Nat.mod_eq_of_lt hidx]

/-- Each byte holds the pixels of its group, `p` of them. -/
def GroupsInBytes (b p : Nat) : List Byte → List (List Index) → Prop :=
  List.Forall₂ fun byte group => group.length = p ∧ HoldsFields b byte.toNat group

/-- Pixel `m*p + k` of the groups in a row is field `k` of byte `m` (R48). -/
theorem GroupsInBytes.field {b p : Nat} {bytes : List Byte} {groups : List (List Index)}
    (h : GroupsInBytes b p bytes groups) {m k : Nat} (hk : k < p) (hm : m < bytes.length)
    (hp : m * p + k < groups.flatten.length) :
    (bytes[m]).toNat / 2 ^ (b * (p - 1 - k)) % 2 ^ b = (groups.flatten[m * p + k]).toNat := by
  induction h generalizing m with
  | nil => simp at hm
  | @cons byte group bytes groups hbyte _ ih =>
    obtain ⟨rfl, hfields⟩ := hbyte
    cases m with
    | zero => simpa [List.getElem_append_left hk] using hfields k hk
    | succ m =>
      have hpos : (m + 1) * group.length + k = group.length + (m * group.length + k) := by ring
      simp only [List.length_cons, List.flatten_cons, List.length_append, hpos] at hm hp ⊢
      rw [List.getElem_append_right (by omega)]
      simpa using ih (by omega) (by omega)

/-- The groups fill their bytes. -/
theorem GroupsInBytes.length {b p : Nat} {bytes : List Byte} {groups : List (List Index)}
    (h : GroupsInBytes b p bytes groups) : bytes.length * p = groups.flatten.length := by
  induction h with
  | nil => simp
  | cons hbyte _ ih => simp [Nat.add_mul, ih, hbyte.1, Nat.add_comm]

/-- The packer has appended `bytes` to the stream `out` for the whole groups of the pixels, and holds the rest of them
in `PACC` (R130). -/
structure PackedSoFar (out bytes : List Byte) (groups : List (List Index)) (group : List Index) (u : State) : Prop where
  stream : u.pixout = out ++ bytes
  whole : GroupsInBytes (bpp u.ctrl) (ppb u.ctrl) bytes groups
  count : group.length = u.pcnt.val
  fields : HoldsFields (bpp u.ctrl) u.pacc.toNat group

/-- `u` has packed the indices `pixels` since `PIXOUT` was `out`. -/
def Packed (out : List Byte) (pixels : List Index) (u : State) : Prop :=
  ∃ bytes groups group, pixels = groups.flatten ++ group ∧ PackedSoFar out bytes groups group u

theorem Packed.start {s : State} (hn : s.pcnt.val = 0) : Packed s.pixout [] s :=
  ⟨[], [], [], rfl, (List.append_nil _).symm, .nil, hn.symm, nofun⟩

/-- `bpp()` divides the byte: its `ppb()` fields fill it (R15). -/
theorem bpp_mul_ppb {ctrl : Half} (h : reservedConfig ctrl = false) : bpp ctrl * ppb ctrl = 8 := by
  rcases bpp_cases h with ⟨hb, hp⟩ | ⟨hb, hp⟩ | ⟨hb, hp⟩ <;> rw [hb, hp]

theorem RasterOk.pcnt_lt {s : State} (h : RasterOk s) (hs : s.runState = .run) : s.pcnt.val < ppb s.ctrl := by
  have hfill := bpp_mul_ppb (h.config hs).1
  rw [(h.packer hs).1]
  exact Nat.mod_lt _ (Nat.pos_of_ne_zero fun h0 => by simp [h0] at hfill)

/-- In a running frame the byte under construction has room for one more index (R29). -/
theorem packed_no_overflow {s : State} (idx : Index) (hs : s.runState = .run) (h : RasterOk s) :
    ((s.pacc <<< bpp s.ctrl) ||| idx.setWidth 8).toNat = s.pacc.toNat * 2 ^ bpp s.ctrl ||| idx.toNat := by
  have hroom : 2 ^ (bpp s.ctrl * s.pcnt.val) * 2 ^ bpp s.ctrl ≤ 2 ^ 8 := by
    rw [← pow_add, ← Nat.mul_add_one]
    exact Nat.pow_le_pow_right (by decide)
      ((Nat.mul_le_mul_left _ (h.pcnt_lt hs)).trans_eq (bpp_mul_ppb (h.config hs).1))
  have hacc : s.pacc.toNat * 2 ^ bpp s.ctrl < 2 ^ 8 :=
    lt_of_lt_of_le (Nat.mul_lt_mul_of_pos_right (h.packer hs).2 (by positivity)) hroom
  rw [packed_toNat]
  exact Nat.mod_eq_of_lt (Nat.or_lt_two_pow hacc (by have := idx.isLt; omega))

theorem Packed.pack {out : List Byte} {pixels : List Index} {s : State} {idx : Index} (hs : s.runState = .run)
    (h : RasterOk s) (hidx : idx.toNat < 2 ^ bpp s.ctrl) (hp : Packed out pixels s) :
    Packed out (pixels ++ [idx]) (pack idx s) := by
  obtain ⟨bytes, groups, group, rfl, hsofar⟩ := hp
  have hpush := hsofar.fields.push hidx
  rw [← packed_no_overflow idx hs h] at hpush
  have hlen : (group ++ [idx]).length = s.pcnt.val + 1 := by simp [hsofar.count]
  by_cases hfull : s.pcnt.val + 1 = ppb s.ctrl
  · rw [pack_full hfull]
    exact ⟨_, groups ++ [group ++ [idx]], [], by simp,
      { stream := by rw [hsofar.stream, List.append_assoc]
        whole := List.rel_append hsofar.whole (.cons ⟨hlen.trans hfull, hpush⟩ .nil)
        count := rfl
        fields := nofun }⟩
  · have hlt : s.pcnt.val + 1 < 8 := by
      have := h.pcnt_lt hs
      rcases bpp_cases (h.config hs).1 with ⟨_, hp⟩ | ⟨_, hp⟩ | ⟨_, hp⟩ <;> omega
    rw [pack_partial hfull]
    exact ⟨bytes, groups, group ++ [idx], by simp,
      { stream := hsofar.stream
        whole := hsofar.whole
        count := hlen.trans (Nat.mod_eq_of_lt hlt).symm
        fields := hpush }⟩

/-- The raster advance and the host touch neither the packer nor `PIXOUT`. -/
theorem Packed.congr {out : List Byte} {pixels : List Index} {s t : State} (hp : Packed out pixels s)
    (hctrl : t.ctrl = s.ctrl) (hout : t.pixout = s.pixout) (hacc : t.pacc = s.pacc) (hcnt : t.pcnt = s.pcnt) :
    Packed out pixels t := by
  obtain ⟨bytes, groups, group, hpix, hstream, hwhole, hcount, hfields⟩ := hp
  refine ⟨bytes, groups, group, hpix, ?_⟩
  constructor <;> simpa only [hctrl, hout, hacc, hcnt]

/-- An accepted `PXI` packs its index (R133). -/
theorem Packed.pxi {out : List Byte} {pixels : List Index} {s t : State} {idx : Index} (hs : s.runState = .run)
    (h : RasterOk s) (ha : acceptedPixel s.ctrl (.pxi idx) = true) (hp : Packed out pixels s)
    (he : exec (.pxi idx) s = .next t) : Packed out (pixels ++ [idx]) t := by
  have hidx : idx.toNat < 2 ^ bpp s.ctrl := by
    simp only [acceptedPixel, Bool.and_eq_true, decide_eq_true_eq] at ha
    exact ha.2
  cases (exec_pxi_fits hs ha).symm.trans he
  exact (hp.pack hs h hidx).congr (by simp [packAdvance]) (by simp [packAdvance]) (by simp [packAdvance])
    (by simp [packAdvance])

/-- A run of accepted `PXI` commands packs their indices in order. -/
theorem steps_pxi {s : State} {pixels : List Index} {rest : List HostEvent} (h : s.Inv) (hs : s.runState = .run)
    (hn : s.pcnt.val = 0) (ha : ∀ idx ∈ pixels, acceptedPixel s.ctrl (.pxi idx) = true)
    (hh : s.host = (pixels.map Instr.pxi).map (fun i => .word (encode i)) ++ rest)
    (hsize : s.position + pixels.length ≤ s.frameSize) :
    ∃ t, steps pixels.length s = .next t ∧ FrameAt s (pixels.map .pxi) rest pixels.length t ∧
      Packed s.pixout pixels t := by
  have hrun := steps_of_indexed (n := pixels.length)
    (I := fun n u => FrameAt s (pixels.map .pxi) rest n u ∧ Packed s.pixout (pixels.take n) u)
    ⟨.zero h hs hh, .start hn⟩
  rw [List.take_length] at hrun
  refine hrun fun n hlt u ⟨hu, hp⟩ => ?_
  have hacc := ha _ (List.getElem_mem hlt)
  obtain ⟨later, v, hv, hev, hat⟩ := hu.step (by simpa using hlt) (by omega) (by simpa using hacc)
  refine ⟨v, hv, hat, ?_⟩
  rw [List.take_succ_eq_append_getElem hlt]
  refine Packed.pxi (s := { u with host := later }) (hu.running (by omega)) (hu.inv.withHost later).raster ?_
    (hp.congr rfl rfl rfl rfl) (by simpa using hev)
  rw [hu.progress.ctrl]
  exact hacc

/-- Settles O30: the run packs the frame's indices group by group, and the last group is full. -/
theorem rawFrameBytesHoldThePixels : Obligations.RawFrameBytesHoldThePixels := by
  intro s pixels rest h hs hmode hx hy hidx hh hsize
  have hzero : s.position = 0 := by simp [State.position, hx, hy]
  have ha : ∀ idx ∈ pixels, acceptedPixel s.ctrl (.pxi idx) = true := fun idx hmem => by
    simp [acceptedPixel, acceptsIndex_eq, hmode, hidx idx hmem]
  obtain ⟨t, ht, hat, bytes, groups, group, hpix, hsofar⟩ :=
    steps_pxi (rest := rest) h hs (h.raster.start hs hx) ha (by rw [hh, List.map_map]; rfl) (by omega)
  obtain ⟨⟨hidle, -⟩, -⟩ := hat.live.completed_of_position_eq hat.inv.raster
    (by rw [hat.position, hat.progress.frameSize]; omega)
  have hempty : group = [] :=
    List.eq_nil_of_length_eq_zero (by rw [hsofar.count, (hat.inv.raster.idle hidle).2.1]; rfl)
  have hwhole := hsofar.whole
  rw [hat.progress.ctrl] at hwhole
  rw [hempty, List.append_nil] at hpix
  subst hpix
  exact ⟨t, bytes, ht, hsofar.stream, hwhole.length, fun m k hk hm hp => hwhole.field hk hm hp⟩

end Sys2Proof.Machine

/-! # Words and commands, both ways (R61, R62, R64)

Each decoder of a format is said once, as the fields of the word it asks for; the two directions of the round trip
and the legality of a word are read off these. -/

namespace Sys2Proof

/-! ### The payload from its fields (R61) -/

theorem payload_eq_regField_valField (w : Word) : payload w = regField w ++ valField w := by
  apply BitVec.eq_of_toNat_eq
  rw [toNat_concat, payload_toNat, regField_toNat, valField_toNat]
  omega

theorem payload_eq_reserved_greyField (w : Word) : payload w = w.extractLsb' 8 16 ++ greyField w := by
  apply BitVec.eq_of_toNat_eq
  rw [toNat_concat, payload_toNat, greyReserved_toNat, greyField_toNat]
  omega

theorem payload_eq_reserved_indexField (w : Word) : payload w = w.extractLsb' 4 20 ++ indexField w := by
  apply BitVec.eq_of_toNat_eq
  rw [toNat_concat, payload_toNat, indexReserved_toNat, indexField_toNat]
  omega

/-! ### What each format asks of a word (R61, R66, R68) -/

theorem regOfNumber_eq_some {n : BitVec 8} {r : Reg} : regOfNumber n = some r ↔ n = r.number :=
  ⟨fun h => (number_of_regOfNumber h).symm, fun h => h ▸ regOfNumber_number r⟩

/-- The shape of a decoder that checks one reserved field (R66). -/
theorem ite_eq_legal {p : Prop} [Decidable p] {i j : Instr} {why : DecodeError} :
    (if p then Decoded.legal i else .illegal why) = .legal j ↔ p ∧ i = j := by
  by_cases hp : p <;> simp [hp]

theorem decodeZ_eq_legal {w : Word} {i j : Instr} : decodeZ w i = .legal j ↔ payload w = 0 ∧ i = j :=
  ite_eq_legal

theorem decodeWr_eq_legal {w : Word} {i : Instr} :
    decodeWr w = .legal i ↔ ∃ r : Reg, r.writable = true ∧ regField w = r.number ∧ .wr r (valField w) = i := by
  simp only [← regOfNumber_eq_some, decodeWr]
  cases regOfNumber (regField w) with
  | none => simp
  | some r => cases hr : r.writable <;> simp [hr]

theorem decodeRd_eq_legal {w : Word} {i : Instr} :
    decodeRd w = .legal i ↔ ∃ r : Reg, valField w = 0 ∧ regField w = r.number ∧ .rd r = i := by
  simp only [← regOfNumber_eq_some, decodeRd]
  by_cases hv : valField w = 0
  · cases regOfNumber (regField w) <;> simp [hv]
  · simp only [hv, if_false, false_and, exists_false, reduceCtorEq]

theorem decodePxg_eq_legal {w : Word} {i : Instr} :
    decodePxg w = .legal i ↔ w.extractLsb' 8 16 = 0 ∧ .pxg (greyField w) = i :=
  ite_eq_legal

theorem decodePxi_eq_legal {w : Word} {i : Instr} :
    decodePxi w = .legal i ↔ w.extractLsb' 4 20 = 0 ∧ .pxi (indexField w) = i :=
  ite_eq_legal

/-! ### From a command to its word and back -/

theorem decodeZ_encode {i : Instr} (h : payloadOf i = 0) : decodeZ (encode i) i = .legal i :=
  decodeZ_eq_legal.mpr ⟨(payload_encode i).trans h, rfl⟩

theorem decode_encode_wr {r : Reg} (v : Half) (h : r.writable = true) :
    decode (encode (.wr r v)) = .legal (.wr r v) := by
  rw [decode_wr (opField_encode _), decodeWr_eq_legal]
  exact ⟨r, h, regField_encode_wr r v, by rw [valField_encode_wr]⟩

theorem decode_encode_rd (r : Reg) : decode (encode (.rd r)) = .legal (.rd r) := by
  rw [decode_rd (opField_encode _), decodeRd_eq_legal]
  exact ⟨r, valField_encode_rd r, regField_encode_rd r, rfl⟩

theorem decode_encode_catk (rgb : Rgb) : decode (encode (.catk rgb)) = .legal (.catk rgb) := by
  rw [decode_catk (opField_encode _), payload_encode]
  rfl

/-- Settles O1: each command is read back by the decoder of its format. -/
theorem decodeOfEncode : Obligations.DecodeOfEncode := by
  intro i hi
  cases i with
  | nop => exact (decode_nop (opField_encode _)).trans (decodeZ_encode rfl)
  | srst => exact (decode_srst (opField_encode _)).trans (decodeZ_encode rfl)
  | wr r v => exact decode_encode_wr v hi
  | rd r => exact decode_encode_rd r
  | catclr => exact (decode_catclr (opField_encode _)).trans (decodeZ_encode rfl)
  | catk rgb => exact decode_encode_catk rgb
  | catlock => exact (decode_catlock (opField_encode _)).trans (decodeZ_encode rfl)
  | start => exact (decode_start (opField_encode _)).trans (decodeZ_encode rfl)
  | fend => exact (decode_fend (opField_encode _)).trans (decodeZ_encode rfl)
  | pxg i => exact decode_encode_pxg i
  | pxc rgb => exact decode_encode_pxc rgb
  | pxi idx => exact decode_encode_pxi idx

/-- Settles O5: each word is, bit for bit, the encoding of its command. -/
theorem wordsOfTheEncodings : Obligations.WordsOfTheEncodings :=
  ⟨decodeOfEncode .nop rfl, decodeOfEncode .srst rfl, decodeOfEncode (.wr .width 0xABCD) rfl,
    decodeOfEncode (.rd .unrcnt) rfl, decodeOfEncode .catclr rfl, decodeOfEncode (.catk 0x123456) rfl,
    decodeOfEncode .catlock rfl, decodeOfEncode .start rfl, decodeOfEncode .fend rfl,
    decodeOfEncode (.pxg 0xC0) rfl, decodeOfEncode (.pxc 0xFEDCBA) rfl, decodeOfEncode (.pxi 0xA) rfl,
    decode_reserved (by decide)⟩

/-! ### From a legal word to its command and back -/

/-- What the payload of a legal word says of its command, by the command's format (R61, R68). -/
theorem payload_of_decode {w : Word} {i : Instr} (h : decode w = .legal i) :
    i.WellFormed ∧ payload w = payloadOf i := by
  have hop := opField_of_decode h
  cases i with
  | nop => exact ⟨rfl, (decodeZ_legal ((decode_nop hop).symm.trans h)).1⟩
  | srst => exact ⟨rfl, (decodeZ_legal ((decode_srst hop).symm.trans h)).1⟩
  | wr r v =>
    obtain ⟨_, hwritable, hreg, heq⟩ := decodeWr_eq_legal.mp ((decode_wr hop).symm.trans h)
    cases heq
    exact ⟨hwritable, by rw [payload_eq_regField_valField, hreg]; rfl⟩
  | rd r =>
    obtain ⟨_, hval, hreg, heq⟩ := decodeRd_eq_legal.mp ((decode_rd hop).symm.trans h)
    cases heq
    exact ⟨rfl, by rw [payload_eq_regField_valField, hreg, hval]; rfl⟩
  | catclr => exact ⟨rfl, (decodeZ_legal ((decode_catclr hop).symm.trans h)).1⟩
  | catk rgb =>
    cases (decode_catk hop).symm.trans h
    exact ⟨rfl, rfl⟩
  | catlock => exact ⟨rfl, (decodeZ_legal ((decode_catlock hop).symm.trans h)).1⟩
  | start => exact ⟨rfl, (decodeZ_legal ((decode_start hop).symm.trans h)).1⟩
  | fend => exact ⟨rfl, (decodeZ_legal ((decode_fend hop).symm.trans h)).1⟩
  | pxg i =>
    obtain ⟨hres, heq⟩ := decodePxg_eq_legal.mp ((decode_pxg hop).symm.trans h)
    cases heq
    exact ⟨rfl, by rw [payload_eq_reserved_greyField, hres]; rfl⟩
  | pxc rgb =>
    cases (decode_pxc hop).symm.trans h
    exact ⟨rfl, rfl⟩
  | pxi idx =>
    obtain ⟨hres, heq⟩ := decodePxi_eq_legal.mp ((decode_pxi hop).symm.trans h)
    cases heq
    exact ⟨rfl, by rw [payload_eq_reserved_indexField, hres]; rfl⟩

/-- Settles O2: a legal word has the opcode and the payload of its command. -/
theorem encodeOfDecode : Obligations.EncodeOfDecode := by
  intro w i h
  obtain ⟨hwf, hpay⟩ := payload_of_decode h
  exact ⟨hwf, word_ext ((opField_encode i).trans (opField_of_decode h).symm) ((payload_encode i).trans hpay.symm)⟩

/-! ### Reserved bits and register numbers (R66, R68) -/

/-- The payload bits that the format of an opcode reserves (R61, R66). -/
def reservedBits (op : BitVec 8) : Word :=
  if op ∈ ([0x02, 0x11, 0x31] : List (BitVec 8)) then 0
  else if op = 0x03 then 0x0000FFFF
  else if op = 0x30 then 0x00FFFF00
  else if op = 0x32 then 0x00FFFFF0
  else 0x00FFFFFF

/-- The register numbers `WR` may name (R68). -/
def writableNumbers : List (BitVec 8) := [0x00, 0x01, 0x02, 0x03]

/-- The register numbers `RD` may name (R68). -/
def readableNumbers : List (BitVec 8) := [0x00, 0x01, 0x02, 0x03, 0x08, 0x09, 0x0A, 0x0B, 0x0C, 0x0D, 0x0E]

/-- What R68 asks of the register number of `WR` and `RD`. -/
def RegisterAllowed (w : Word) : Prop :=
  (opField w = 0x02 → regField w ∈ writableNumbers) ∧ (opField w = 0x03 → regField w ∈ readableNumbers)

theorem mem_allRegs (r : Reg) : r ∈ allRegs := by cases r <;> decide

theorem exists_writable_number {n : BitVec 8} :
    (∃ r : Reg, r.writable = true ∧ n = r.number) ↔ n ∈ writableNumbers := by
  rw [show writableNumbers = (allRegs.filter Reg.writable).map Reg.number from rfl]
  simp only [List.mem_map, List.mem_filter, mem_allRegs, true_and, eq_comm (a := n)]

theorem exists_number {n : BitVec 8} : (∃ r : Reg, n = r.number) ↔ n ∈ readableNumbers := by
  rw [show readableNumbers = allRegs.map Reg.number from rfl]
  simp only [List.mem_map, mem_allRegs, true_and, eq_comm (a := n)]

theorem registerAllowed_wr {w : Word} (ho : opField w = 0x02) : RegisterAllowed w ↔ regField w ∈ writableNumbers := by
  simp [RegisterAllowed, ho]

theorem registerAllowed_rd {w : Word} (ho : opField w = 0x03) : RegisterAllowed w ↔ regField w ∈ readableNumbers := by
  simp [RegisterAllowed, ho]

theorem registerAllowed_of_opField {w : Word} {op : BitVec 8} (ho : opField w = op) (h2 : op ≠ 0x02) (h3 : op ≠ 0x03) :
    RegisterAllowed w :=
  ⟨fun h => absurd (ho.symm.trans h) h2, fun h => absurd (ho.symm.trans h) h3⟩

/-! ### Which words each format admits -/

theorem decodeZ_isLegal (w : Word) (i : Instr) : (∃ j, decodeZ w i = .legal j) ↔ w &&& 0x00FFFFFF = 0 := by
  simp only [decodeZ_eq_legal, payload_mask, exists_and_left, exists_eq', and_true]

theorem decodeWr_isLegal (w : Word) : (∃ j, decodeWr w = .legal j) ↔ regField w ∈ writableNumbers := by
  simp only [decodeWr_eq_legal, ← exists_writable_number]
  exact ⟨fun ⟨_, r, hr, hn, _⟩ => ⟨r, hr, hn⟩, fun ⟨r, hr, hn⟩ => ⟨_, r, hr, hn, rfl⟩⟩

theorem decodeRd_isLegal (w : Word) :
    (∃ j, decodeRd w = .legal j) ↔ w &&& 0x0000FFFF = 0 ∧ regField w ∈ readableNumbers := by
  simp only [decodeRd_eq_legal, valField_mask, ← exists_number]
  exact ⟨fun ⟨_, r, hv, hn, _⟩ => ⟨hv, r, hn⟩, fun ⟨hv, r, hn⟩ => ⟨_, r, hv, hn, rfl⟩⟩

theorem decodePxg_isLegal (w : Word) : (∃ j, decodePxg w = .legal j) ↔ w &&& 0x00FFFF00 = 0 := by
  simp only [decodePxg_eq_legal, greyReserved_mask, exists_and_left, exists_eq', and_true]

theorem decodePxi_isLegal (w : Word) : (∃ j, decodePxi w = .legal j) ↔ w &&& 0x00FFFFF0 = 0 := by
  simp only [decodePxi_eq_legal, indexReserved_mask, exists_and_left, exists_eq', and_true]

/-! ### Which words are legal (R62, R64) -/

/-- A word is legal exactly when its opcode is defined, its reserved bits are 0 and its register number is
allowed (R65, R66, R68). -/
theorem legal_iff (w : Word) : (∃ i, decode w = .legal i) ↔
    opField w ∈ definedOpcodes ∧ w &&& reservedBits (opField w) = 0 ∧ RegisterAllowed w := by
  by_cases hmem : opField w ∈ definedOpcodes
  case neg => simp only [decode_reserved hmem, hmem, false_and, reduceCtorEq, exists_false]
  case pos =>
    rw [and_iff_right hmem]
    have noRegister {op : BitVec 8} (ho : opField w = op) (h2 : op ≠ 0x02) (h3 : op ≠ 0x03)
        (h : (∃ i, decode w = .legal i) ↔ w &&& reservedBits op = 0) :
        (∃ i, decode w = .legal i) ↔ w &&& reservedBits (opField w) = 0 ∧ RegisterAllowed w := by
      rw [h, ho, and_iff_left (registerAllowed_of_opField ho h2 h3)]
    have unreserved : w &&& 0 = 0 := BitVec.and_zero
    simp only [definedOpcodes, List.mem_cons, List.not_mem_nil, or_false] at hmem
    obtain ho | ho | ho | ho | ho | ho | ho | ho | ho | ho | ho | ho := hmem
    · exact noRegister ho (by decide) (by decide) (decode_nop ho ▸ decodeZ_isLegal w _)
    · exact noRegister ho (by decide) (by decide) (decode_srst ho ▸ decodeZ_isLegal w _)
    · rw [decode_wr ho, registerAllowed_wr ho, ho, decodeWr_isLegal]
      exact (and_iff_right unreserved).symm
    · rw [decode_rd ho, registerAllowed_rd ho, ho]
      exact decodeRd_isLegal w
    · exact noRegister ho (by decide) (by decide) (decode_catclr ho ▸ decodeZ_isLegal w _)
    · exact noRegister ho (by decide) (by decide) (iff_of_true ⟨_, decode_catk ho⟩ unreserved)
    · exact noRegister ho (by decide) (by decide) (decode_catlock ho ▸ decodeZ_isLegal w _)
    · exact noRegister ho (by decide) (by decide) (decode_start ho ▸ decodeZ_isLegal w _)
    · exact noRegister ho (by decide) (by decide) (decode_fend ho ▸ decodeZ_isLegal w _)
    · exact noRegister ho (by decide) (by decide) (decode_pxg ho ▸ decodePxg_isLegal w)
    · exact noRegister ho (by decide) (by decide) (iff_of_true ⟨_, decode_pxc ho⟩ unreserved)
    · exact noRegister ho (by decide) (by decide) (decode_pxi ho ▸ decodePxi_isLegal w)

/-! ### The opcode map (R62) -/

/-- The rows are those of the defined opcodes, in their order. -/
theorem opcodes_of_rows : opcodeRows.map (fun r => opField r.pattern) = definedOpcodes := by decide

/-- Each row asks for its opcode and for the reserved bits of that opcode to be 0. -/
theorem row_mask_pattern : ∀ r ∈ opcodeRows,
    r.mask = 0xFF000000 ||| reservedBits (opField r.pattern) ∧ r.pattern = opField r.pattern ++ (0 : BitVec 24) ∧
      reservedBits (opField r.pattern) &&& 0xFF000000 = 0 := by decide

theorem rowMatches_iff (w : Word) {r : OpcodeRow} (hr : r ∈ opcodeRows) :
    rowMatches w r = true ↔ opField r.pattern = opField w ∧ w &&& reservedBits (opField w) = 0 := by
  obtain ⟨hmask, hpattern, hdisjoint⟩ := row_mask_pattern r hr
  have hrow : rowMatches w r = true ↔ opField w = opField r.pattern ∧ w &&& reservedBits (opField r.pattern) = 0 := by
    rw [← mask_opcode_reserved w _ _ hdisjoint, ← hmask, ← hpattern, rowMatches, beq_iff_eq]
  rw [hrow, eq_comm]
  exact and_congr_right fun ho => by rw [ho]

/-- Exactly one row selects a word when its opcode is defined and its reserved bits are 0: the opcodes of the
rows are distinct (R62, R64). -/
theorem one_row_iff (w : Word) : (opcodeRows.filter (rowMatches w)).length = 1 ↔
    opField w ∈ definedOpcodes ∧ w &&& reservedBits (opField w) = 0 := by
  by_cases hres : w &&& reservedBits (opField w) = 0
  · have hrows : opcodeRows.filter (rowMatches w) = opcodeRows.filter (fun r => opField r.pattern == opField w) :=
      List.filter_congr fun r hr => by
        rw [Bool.eq_iff_iff, rowMatches_iff w hr, beq_iff_eq, and_iff_left hres]
    have hcount : (opcodeRows.filter (rowMatches w)).length = definedOpcodes.count (opField w) := by
      rw [hrows, ← opcodes_of_rows, List.count, List.countP_map, List.countP_eq_length_filter]
      rfl
    rw [hcount, List.Nodup.count (by decide), and_iff_left hres]
    simp
  · have hrows : opcodeRows.filter (rowMatches w) = [] :=
      List.filter_eq_nil_iff.mpr fun r hr h => hres ((rowMatches_iff w hr).mp h).2
    rw [hrows]
    exact iff_of_false (by decide) fun h => hres h.2

/-- Settles O3: the rows that select a word are those of its opcode, if its reserved bits are 0. -/
theorem legalExactlyByOneRow : Obligations.LegalExactlyByOneRow := by
  intro w
  rw [legal_iff, one_row_iff, and_assoc]
  rfl

/-- Settles O4: a legal word has its reserved bits 0; a word that reserves none is legal if its register is. -/
theorem reservedPayloadBitsAreIllegal : Obligations.ReservedPayloadBitsAreIllegal := by
  intro w
  constructor
  · intro hbits i hlegal
    have reserved {op : BitVec 8} (ho : opField w = op) : w &&& reservedBits op = 0 := by
      obtain ⟨-, hres, -⟩ := (legal_iff w).mp ⟨i, hlegal⟩
      exact ho ▸ hres
    obtain ⟨ho, hne⟩ | ⟨ho, hne⟩ | ⟨ho, hne⟩ | ⟨ho, hne⟩ := hbits
    · refine hne ((payload_toNat w).symm.trans (congrArg BitVec.toNat ((payload_mask w).mp ?_)))
      simp only [List.mem_cons, List.not_mem_nil, or_false] at ho
      obtain ho | ho | ho | ho | ho | ho := ho <;> exact reserved ho
    · exact hne ((valField_toNat w).symm.trans (congrArg BitVec.toNat ((valField_mask w).mp (reserved ho))))
    · exact hne ((greyReserved_toNat w).symm.trans (congrArg BitVec.toNat ((greyReserved_mask w).mp (reserved ho))))
    · exact hne ((indexReserved_toNat w).symm.trans (congrArg BitVec.toNat ((indexReserved_mask w).mp (reserved ho))))
  · rintro (ho | ho | ⟨ho, hreg⟩)
    · exact ⟨_, decode_catk ho⟩
    · exact ⟨_, decode_pxc ho⟩
    · rw [decode_wr ho, decodeWr_isLegal]
      exact hreg

end Sys2Proof

/-! # Words of read-only registers (R68) -/

namespace Sys2Proof

/-- The numbers of R32 are distinct. -/
theorem Reg.number_injective : Function.Injective Reg.number := fun a b h =>
  Option.some.inj (by rw [← regOfNumber_number a, h, regOfNumber_number])

/-- The word of a `WR` of a register that is not writable is illegal (R68). -/
theorem decode_encode_wr_readOnly {r : Reg} (hr : r.writable = false) (v : Half) (i : Instr) :
    decode (encode (.wr r v)) ≠ .legal i := by
  rw [decode_wr (opField_encode _), Ne, decodeWr_eq_legal, regField_encode_wr]
  rintro ⟨q, hq, hnum, -⟩
  cases Reg.number_injective hnum
  simp [hq] at hr

end Sys2Proof

/-! # The control commands (R80 to R85)

A word at `CMD` runs as the command it decodes to; then each of `NOP`, `SRST`, `WR` and `RD`. -/

namespace Sys2Proof.Machine

/-! ### The command step (R85) -/

/-- Settles O6: the step takes the word, and a legal word runs as its command. -/
theorem stepRunsTheDecodedCommand : Obligations.StepRunsTheDecodedCommand := by
  intro s w rest i hhost hdecode
  rw [step_word hhost, runWord, hdecode]

/-! ### `NOP` (R80) -/

theorem exec_nop (s : State) : exec .nop s = .next s := rfl

/-- Settles O14: the word 0 is the encoding of `NOP`. -/
theorem nopChangesNothing : Obligations.NopChangesNothing := fun s =>
  ⟨exec_nop s, fun rest hhost => stepRunsTheDecodedCommand s 0 rest .nop hhost (decodeOfEncode .nop rfl)⟩

/-! ### `SRST` (R81) -/

theorem exec_srst (s : State) : exec .srst s = .next (resetKeepingStreams s) := rfl

/-- The reset values are those of the reset state; none of them is a stream or the host's list (R33). -/
theorem resetKeepingStreams_atReset (s : State) : AtReset (resetKeepingStreams s) :=
  { resetStateValues.1 with }

/-- Settles O13: `reset()` gives the reset values and keeps the streams. -/
theorem srstResetsAllButTheStreams : Obligations.SrstResetsAllButTheStreams := fun s =>
  ⟨resetKeepingStreams s, exec_srst s, resetKeepingStreams_atReset s, rfl, rfl, rfl, rfl, rfl⟩

/-! ### `WR` (R82) -/

theorem exec_wr {r : Reg} (hr : r.writable = true) (v : Half) (s : State) :
    exec (.wr r v) s = .next (idleOnly (encode (.wr r v)) (regWrite r v) s) := by
  simp [exec, execWr, hr]

theorem exec_wr_idle {r : Reg} {s : State} (hr : r.writable = true) (hs : s.runState = .idle) (v : Half) :
    exec (.wr r v) s = .next (regWrite r v s) := by
  rw [exec_wr hr, idleOnly_idle hs]

theorem exec_wr_run {r : Reg} {s : State} (hr : r.writable = true) (hs : s.runState = .run) (v : Half) :
    exec (.wr r v) s = .next (raise .protocol (encode (.wr r v)) s) := by
  rw [exec_wr hr, idleOnly_run hs]

/-- Settles O15: in `IDLE` the register is written under its mask, in `RUN` the command faults, and the decoder
asks for a writable register. -/
theorem wrWritesOneRegister : Obligations.WrWritesOneRegister := by
  refine fun s v => ⟨fun hs => ?_, fun hs r hr => exec_wr_run hr hs v, fun r hr => decode_encode_wr_readOnly hr v⟩
  exact ⟨exec_wr_idle rfl hs v, exec_wr_idle rfl hs v, exec_wr_idle rfl hs v, exec_wr_idle rfl hs v⟩

/-! ### `RD` (R83): the registers as numbers (R15 to R23) -/

theorem exec_rd (r : Reg) (s : State) :
    exec (.rd r) s = .next { s with rsp := s.rsp ++ [(regRead s r).setWidth 32] } := rfl

theorem runStateCode_toNat (s : State) : (runStateCode s.runState).toNat = s.stateNum := by
  unfold State.stateNum
  cases s.runState <;> rfl

/-- `STATUS` from bit 15 down (R19): each flag weighs the power of 2 of its bit. -/
theorem statusView_toNat (s : State) : (statusView s).toNat = registerNat s .status := by
  have hpal : (BitVec.ofNat 3 s.palcnt.val).toNat = s.palcnt.val := Nat.mod_eq_of_lt (by omega)
  simp only [statusView, toNat_concat, hpal, runStateCode_toNat, BitVec.toNat_ofBool, BitVec.ofNat_eq_ofNat,
    BitVec.toNat_ofNat, registerNat]
  omega

/-- The mask of `CTRL` leaves `RAWBPP` in bits 5:4 and `MODE` in bits 2:0 (R15). -/
theorem ctrl_masked (v : Half) :
    v &&& ctrlMask = (rawbppOf v ++ (0 : BitVec 1) ++ v.extractLsb' 0 3).setWidth 16 := by
  apply BitVec.eq_of_getLsbD_eq
  intro k hk
  simp only [ctrlMask, rawbppOf, BitVec.getLsbD_and, BitVec.getLsbD_setWidth, BitVec.getLsbD_append,
    BitVec.getLsbD_extractLsb']
  interval_cases k <;> simp

theorem ctrl_masked_toNat (s : State) : (s.ctrl &&& ctrlMask).toNat = s.modeNum + 16 * s.rawbppNum := by
  rw [ctrl_masked, BitVec.toNat_setWidth_of_le (by decide)]
  simp only [toNat_concat, rawbpp_bits, mode_bits, BitVec.ofNat_eq_ofNat, BitVec.toNat_ofNat]
  omega

theorem catval_masked_toNat (v : Half) : (v &&& catvalMask).toNat = v.toNat % 256 := by
  rw [BitVec.toNat_and]
  exact Nat.and_two_pow_sub_one_eq_mod v.toNat 8

/-- A read gives the register's number, assembled from its fields. -/
theorem regRead_toNat (s : State) (r : Reg) : (regRead s r).toNat = registerNat s r := by
  cases r with
  | ctrl => exact ctrl_masked_toNat s
  | catval => exact catval_masked_toNat s.catval
  | status => exact statusView_toNat s
  | fcode => exact BitVec.toNat_setWidth_of_le (by decide)
  | catptr => exact Nat.mod_eq_of_lt (by omega)
  | width | height | xpos | ypos | ovfcnt | unrcnt => rfl

/-- Settles O16: the word appended is the register zero-extended, so its number is the register's. -/
theorem rdAppendsTheRegister : Obligations.RdAppendsTheRegister := fun s r =>
  ⟨(regRead s r).setWidth 32, exec_rd r s, (BitVec.toNat_setWidth_of_le (by decide)).trans (regRead_toNat s r)⟩

end Sys2Proof.Machine

/-! # The catalog (R90 to R95)

The three catalog commands case by case, then the two lookups over the loaded entries. -/

namespace Sys2Proof.Machine

/-! ### `CATCLR` (R90) -/

theorem encode_catclr : encode .catclr = 0x10000000 := rfl

theorem exec_catclr_run {s : State} (hs : s.runState = .run) :
    exec .catclr s = .next (raise .protocol (encode .catclr) s) :=
  congrArg _ (idleOnly_run hs)

theorem exec_catclr_idle {s : State} (hs : s.runState = .idle) :
    exec .catclr s = .next (if s.catlock then raise .protocol (encode .catclr) s else clearCatalog s) :=
  congrArg _ (idleOnly_idle hs)

theorem exec_catclr_locked {s : State} (hs : s.runState = .idle) (hl : s.catlock = true) :
    exec .catclr s = .next (raise .protocol (encode .catclr) s) := by
  rw [exec_catclr_idle hs, if_pos hl]

theorem exec_catclr_unlocked {s : State} (hs : s.runState = .idle) (hl : s.catlock = false) :
    exec .catclr s = .next (clearCatalog s) := by
  rw [exec_catclr_idle hs, if_neg (ne_true_of_eq_false hl)]

/-- Settles O18: clearing writes `valid` of every entry and `CATPTR`. -/
theorem catclrEmptiesTheCatalog : Obligations.CatclrEmptiesTheCatalog := by
  refine fun s => ⟨fun hs hl => ⟨(clearCatalog s).cat, exec_catclr_unlocked hs hl, fun e => ?_⟩, ?_, ?_⟩
  · simp
  · exact encode_catclr ▸ exec_catclr_run
  · exact encode_catclr ▸ exec_catclr_locked

/-! ### `CATK` (R91) -/

theorem exec_catk_run {s : State} (rgb : Rgb) (hs : s.runState = .run) :
    exec (.catk rgb) s = .next (raise .protocol (encode (.catk rgb)) s) :=
  congrArg _ (idleOnly_run hs)

/-- The checks of `CATK` in `IDLE`, in their order. -/
theorem exec_catk_idle {s : State} (rgb : Rgb) (hs : s.runState = .idle) :
    exec (.catk rgb) s = .next (if s.catlock then raise .protocol (encode (.catk rgb)) s
      else if s.catptr.val = 256 then raise .catalogFull (encode (.catk rgb)) s
      else writeEntry rgb (s.catval.extractLsb' 0 8) s) :=
  congrArg _ (idleOnly_idle hs)

theorem exec_catk_locked {s : State} (rgb : Rgb) (hs : s.runState = .idle) (hl : s.catlock = true) :
    exec (.catk rgb) s = .next (raise .protocol (encode (.catk rgb)) s) := by
  rw [exec_catk_idle rgb hs, if_pos hl]

theorem exec_catk_full {s : State} (rgb : Rgb) (hs : s.runState = .idle) (hl : s.catlock = false)
    (hp : s.catptr.val = 256) : exec (.catk rgb) s = .next (raise .catalogFull (encode (.catk rgb)) s) := by
  rw [exec_catk_idle rgb hs, if_neg (ne_true_of_eq_false hl), if_pos hp]

theorem exec_catk_room {s : State} (rgb : Rgb) (hs : s.runState = .idle) (hl : s.catlock = false)
    (hp : s.catptr.val < 256) : exec (.catk rgb) s = .next (writeEntry rgb (s.catval.extractLsb' 0 8) s) := by
  rw [exec_catk_idle rgb hs, if_neg (ne_true_of_eq_false hl), if_neg hp.ne]

/-- Settles O19: the entry is written by `Vector.set` at `CATPTR`, which the faults come before. -/
theorem catkAppendsOneEntry : Obligations.CatkAppendsOneEntry := by
  refine fun s rgb => ⟨fun hs hl hp => ?_, exec_catk_run rgb, exec_catk_locked rgb, exec_catk_full rgb⟩
  have hexec := exec_catk_room rgb hs hl hp
  rw [writeEntry_below hp] at hexec
  have hentry := Vector.getElem_set_self (xs := s.cat) (x := ⟨true, rgb, s.catval.extractLsb' 0 8⟩) hp
  refine ⟨_, _, hexec, Nat.mod_eq_of_lt (by omega), ?_, ?_, ?_, fun e he => ?_⟩
  · rw [hentry]
  · rw [hentry]
  · rw [hentry, BitVec.extractLsb'_toNat, Nat.shiftRight_zero]
  · exact Vector.getElem_set_ne hp e.isLt he.symm

/-! ### `CATLOCK` (R92) -/

theorem encode_catlock : encode .catlock = 0x12000000 := rfl

theorem exec_catlock_run {s : State} (hs : s.runState = .run) :
    exec .catlock s = .next (raise .protocol (encode .catlock) s) :=
  congrArg _ (idleOnly_run hs)

/-- The checks of `CATLOCK` in `IDLE`, in their order. -/
theorem exec_catlock_idle {s : State} (hs : s.runState = .idle) :
    exec .catlock s = .next (if s.catlock then s
      else if s.catptr.val = 0 then raise .missingReference (encode .catlock) s else { s with catlock := true }) :=
  congrArg _ (idleOnly_idle hs)

theorem exec_catlock_locked {s : State} (hs : s.runState = .idle) (hl : s.catlock = true) :
    exec .catlock s = .next s := by
  rw [exec_catlock_idle hs, if_pos hl]

theorem exec_catlock_empty {s : State} (hs : s.runState = .idle) (hl : s.catlock = false) (hp : s.catptr.val = 0) :
    exec .catlock s = .next (raise .missingReference (encode .catlock) s) := by
  rw [exec_catlock_idle hs, if_neg (ne_true_of_eq_false hl), if_pos hp]

/-- With a loaded entry the flag is set; where it was set already, the write is of its own value. -/
theorem exec_catlock_loaded {s : State} (hs : s.runState = .idle) (hp : 0 < s.catptr.val) :
    exec .catlock s = .next { s with catlock := true } := by
  cases hl : s.catlock with
  | true => rw [exec_catlock_locked hs hl, ← hl]
  | false => rw [exec_catlock_idle hs, if_neg (ne_true_of_eq_false hl), if_neg hp.ne']

/-- Settles O20: one case of `CATLOCK` for each clause. -/
theorem catlockFreezesTheCatalog : Obligations.CatlockFreezesTheCatalog := fun _ =>
  ⟨exec_catlock_loaded, exec_catlock_locked, encode_catlock ▸ exec_catlock_empty, encode_catlock ▸ exec_catlock_run⟩

/-! ### The exact lookup (R94) -/

/-- Every index of the loaded entries is an entry of the catalog below `CATPTR`. -/
theorem exists_cat_of_loaded_index {s : State} {k : Nat} (hk : k < (loaded s).length) :
    ∃ e : Fin 256, e.val = k ∧ e.val < s.catptr.val ∧ (loaded s)[k] = s.cat[e] := by
  have hp : k < s.catptr.val := loaded_length s ▸ hk
  have h256 : k < 256 := by omega
  exact ⟨⟨k, h256⟩, rfl, hp, loaded_getElem s ⟨k, h256⟩ hp⟩

theorem lookupExact_eq_none {entries : List CatEntry} {rgb : Rgb} :
    lookupExact entries rgb = none ↔ ∀ e ∈ entries, e.key ≠ rgb := by
  simp [lookupExact]

/-- The search stops at the first entry with the key. -/
theorem lookupExact_lowest {entries : List CatEntry} {rgb : Rgb} {k : Nat} (hk : k < entries.length)
    (hkey : entries[k].key = rgb) (hfirst : ∀ j, ∀ hj : j < k, entries[j].key ≠ rgb) :
    lookupExact entries rgb = some entries[k].val := by
  have hfind : entries.find? (fun e => e.key == rgb) = some entries[k] :=
    List.find?_eq_some_iff_getElem.mpr ⟨by simpa using hkey, k, hk, rfl, fun j hj => by simpa using hfirst j hj⟩
  rw [lookupExact, hfind, Option.map_some]

/-- Settles O21: the list of loaded entries is searched in the order of their numbers. -/
theorem lookupGivesTheLowestEntry : Obligations.LookupGivesTheLowestEntry := by
  refine fun s rgb => ⟨fun hmiss => lookupExact_eq_none.mpr fun a ha => ?_, fun e he hkey hfirst => ?_⟩
  · obtain ⟨k, hk, rfl⟩ := List.getElem_of_mem ha
    obtain ⟨e, -, he, hentry⟩ := exists_cat_of_loaded_index hk
    exact hentry ▸ hmiss e he
  · have hk : e.val < (loaded s).length := by rwa [loaded_length]
    rw [← loaded_getElem s e he] at hkey ⊢
    refine lookupExact_lowest hk hkey fun j hj => ?_
    obtain ⟨f, rfl, -, hentry⟩ := exists_cat_of_loaded_index (hj.trans hk)
    exact hentry ▸ hfirst f hj

/-! ### The nearest lookup (R95) -/

/-- The truncated differences of `squareDiff` are the square of the integer difference. -/
theorem squareDiff_eq (a b : Byte) : (squareDiff a b : Int) = ((a.toNat : Int) - b.toNat) ^ 2 := by
  unfold squareDiff
  rcases le_total a.toNat b.toNat with h | h <;>
  · rw [Nat.sub_eq_zero_of_le h]
    push_cast [h]
    ring

/-- The first component of a colour is its top byte, so no remainder is taken. -/
theorem red_toNat (rgb : Rgb) : (rgb.extractLsb' 16 8).toNat = rgb.toNat / 65536 := by
  have := rgb.isLt
  rw [BitVec.extractLsb'_toNat, Nat.shiftRight_eq_div_pow]
  omega

theorem green_toNat (rgb : Rgb) : (rgb.extractLsb' 8 8).toNat = rgb.toNat / 256 % 256 := by
  rw [BitVec.extractLsb'_toNat, Nat.shiftRight_eq_div_pow]

theorem blue_toNat (rgb : Rgb) : (rgb.extractLsb' 0 8).toNat = rgb.toNat % 256 := by
  rw [BitVec.extractLsb'_toNat, Nat.shiftRight_zero]

/-- The squared distance in numbers (R95). -/
theorem distance_eq (rgb key : Rgb) : (distance rgb key : Int) =
    ((rgb.toNat / 65536 : Nat) - (key.toNat / 65536 : Nat) : Int) ^ 2 +
    ((rgb.toNat / 256 % 256 : Nat) - (key.toNat / 256 % 256 : Nat) : Int) ^ 2 +
    ((rgb.toNat % 256 : Nat) - (key.toNat % 256 : Nat) : Int) ^ 2 := by
  rw [distance, Nat.cast_add, Nat.cast_add, squareDiff_eq, squareDiff_eq, squareDiff_eq]
  simp only [red_toNat, green_toNat, blue_toNat]

theorem nearestEntry_eq_none {rgb : Rgb} {entries : List CatEntry} :
    nearestEntry rgb entries = none ↔ entries = [] := by
  cases entries with
  | nil => simp [nearestEntry]
  | cons e rest =>
    rw [nearestEntry]
    split
    · simp
    · split <;> simp

theorem nearestEntry_mem {rgb : Rgb} {entries : List CatEntry} {e : CatEntry}
    (h : nearestEntry rgb entries = some e) : e ∈ entries := by
  induction entries with
  | nil => cases h
  | cons a rest ih =>
    rw [nearestEntry] at h
    split at h
    · cases h
      exact List.mem_cons_self
    · split at h <;> cases h
      · exact List.mem_cons_self
      · exact List.mem_cons_of_mem _ (ih ‹_›)

/-- The head is taken if no later entry is strictly nearer. -/
theorem nearestEntry_cons_head {rgb : Rgb} {e : CatEntry} {rest : List CatEntry}
    (hmin : ∀ f ∈ rest, distance rgb e.key ≤ distance rgb f.key) : nearestEntry rgb (e :: rest) = some e := by
  rw [nearestEntry]
  split
  · rfl
  · exact if_pos (hmin _ (nearestEntry_mem ‹_›))

/-- The choice among the later entries stands if it is strictly nearer than the head. -/
theorem nearestEntry_cons_tail {rgb : Rgb} {e f : CatEntry} {rest : List CatEntry}
    (hrest : nearestEntry rgb rest = some f) (hlt : distance rgb f.key < distance rgb e.key) :
    nearestEntry rgb (e :: rest) = some f := by
  simp only [nearestEntry, hrest]
  exact if_neg (Nat.not_le.mpr hlt)

/-- The lowest-numbered entry of smallest distance is the one chosen. -/
theorem nearestEntry_lowest {rgb : Rgb} {entries : List CatEntry} {k : Nat} (hk : k < entries.length)
    (hmin : ∀ f ∈ entries, distance rgb entries[k].key ≤ distance rgb f.key)
    (hfirst : ∀ j, ∀ hj : j < k, distance rgb entries[k].key < distance rgb entries[j].key) :
    nearestEntry rgb entries = some entries[k] := by
  induction entries generalizing k with
  | nil => cases hk
  | cons e rest ih =>
    cases k with
    | zero => exact nearestEntry_cons_head fun f hf => hmin f (List.mem_cons_of_mem _ hf)
    | succ k =>
      refine nearestEntry_cons_tail (ih (Nat.lt_of_succ_lt_succ hk) ?_ ?_) (hfirst 0 k.succ_pos)
      · exact fun f hf => hmin f (List.mem_cons_of_mem _ hf)
      · exact fun j hj => hfirst (j + 1) (Nat.succ_lt_succ hj)

/-- Settles O22: `nearestEntry` keeps the earlier entry on a tie, and gives none on the empty list alone. -/
theorem nearestLookupMinimisesTheDistance : Obligations.NearestLookupMinimisesTheDistance := by
  intro s rgb d hd
  have hdist (e : Fin 256) : d e = distance rgb (s.cat[e]).key := (hd e).trans (distance_eq _ _).symm
  simp only [hdist, Nat.cast_le, Nat.cast_lt]
  refine ⟨fun hp hmiss => ?_, fun e he hmin hfirst => ?_⟩
  · have hnil := nearestEntry_eq_none.mp (Option.map_eq_none_iff.mp hmiss)
    rw [← loaded_length, hnil] at hp
    exact absurd hp (by decide)
  · have hk : e.val < (loaded s).length := by rwa [loaded_length]
    rw [← loaded_getElem s e he] at hmin hfirst ⊢
    refine congrArg (Option.map CatEntry.val) (nearestEntry_lowest hk (fun a ha => ?_) fun j hj => ?_)
    · obtain ⟨j, hj, rfl⟩ := List.getElem_of_mem ha
      obtain ⟨f, -, hf, hentry⟩ := exists_cat_of_loaded_index hj
      exact hentry ▸ hmin f hf
    · obtain ⟨f, rfl, -, hentry⟩ := exists_cat_of_loaded_index (hj.trans hk)
      exact hentry ▸ hfirst f hj

end Sys2Proof.Machine

/-! # Frames and the raster (R100 to R107)

`START` check by check, `FEND`, the raster advance case by case, and the run that completes a frame. -/

namespace Sys2Proof.Machine

/-! ### `START` (R100, R101) -/

theorem encode_start : encode .start = 0x20000000 := rfl

theorem modeOf_reserved {s : State} : modeOf s.ctrl = .reserved ↔ s.modeNum = 7 := by
  rw [modeOf_eq]
  have := modeNum_lt s
  interval_cases s.modeNum <;> decide

/-- The two reserved contents of `CTRL`, by their numbers (R15). -/
theorem reservedConfig_iff {s : State} :
    reservedConfig s.ctrl = true ↔ s.modeNum = 7 ∨ s.modeNum = 6 ∧ s.rawbppNum = 3 := by
  simp [reservedConfig, modeOf_reserved, modeOf_raw, rawbppOf_eq_iff]

theorem exec_start_run {s : State} (hs : s.runState = .run) :
    exec .start s = .next (raise .protocol (encode .start) s) :=
  congrArg _ (idleOnly_run hs)

/-- The checks of `START` in `IDLE`, in their order. -/
theorem exec_start_idle {s : State} (hs : s.runState = .idle) :
    exec .start s = .next (if reservedConfig s.ctrl then raise .badConfig (encode .start) s
      else if s.width = 0 ∨ s.height = 0 then raise .badConfig (encode .start) s
      else if s.width.toNat % ppb s.ctrl ≠ 0 then raise .badConfig (encode .start) s
      else if adaptive s.ctrl ∧ s.catlock = false then raise .missingReference (encode .start) s
      else beginFrame s) :=
  congrArg _ (idleOnly_idle hs)

/-- Whichever check of the configuration fails first, the fault is the same. -/
theorem exec_start_badConfig {s : State} (hs : s.runState = .idle)
    (h : reservedConfig s.ctrl = true ∨ (s.width = 0 ∨ s.height = 0) ∨ s.width.toNat % ppb s.ctrl ≠ 0) :
    exec .start s = .next (raise .badConfig (encode .start) s) := by
  rw [exec_start_idle hs]
  by_cases hc : reservedConfig s.ctrl = true
  · rw [if_pos hc]
  by_cases hz : s.width = 0 ∨ s.height = 0
  · rw [if_neg hc, if_pos hz]
  · rw [if_neg hc, if_neg hz, if_pos ((h.resolve_left hc).resolve_left hz)]

/-- With the configuration accepted only the frozen catalog is still asked for. -/
theorem exec_start_configured {s : State} (hs : s.runState = .idle) (hc : ¬reservedConfig s.ctrl = true)
    (hw : s.width ≠ 0) (hh : s.height ≠ 0) (hm : s.width.toNat % ppb s.ctrl = 0) :
    exec .start s = .next (if adaptive s.ctrl ∧ s.catlock = false then raise .missingReference (encode .start) s
      else beginFrame s) := by
  rw [exec_start_idle hs, if_neg hc, if_neg (not_or_intro hw hh), if_neg (not_not_intro hm)]

/-- Settles O25: in `IDLE` each clause names a check that fails, and for `MISSING_REFERENCE` the mode itself is not a
reserved one. -/
theorem startChecksInOrder : Obligations.StartChecksInOrder := by
  intro s
  rw [← encode_start]
  refine ⟨exec_start_run, fun hs => ⟨fun hc => ?_, fun hz => ?_, fun _ _ hm => ?_, fun hw hh hm hmode hl => ?_⟩⟩
  · exact exec_start_badConfig hs (.inl (reservedConfig_iff.mpr hc))
  · exact exec_start_badConfig hs (.inr (.inl hz))
  · exact exec_start_badConfig hs (.inr (.inr hm))
  · have hc : ¬reservedConfig s.ctrl = true := by
      rw [reservedConfig_iff]
      omega
    rw [exec_start_configured hs hc hw hh hm, if_pos ⟨adaptive_iff.mpr hmode, hl⟩]

/-- Settles O24: no check is left to fail, and `beginFrame` is the update. -/
theorem startBeginsAFrame : Obligations.StartBeginsAFrame := by
  rintro s ⟨hs, ⟨h7, h6⟩, ⟨hw, hh⟩, hm, hfrozen⟩
  have hc : ¬reservedConfig s.ctrl = true := fun h => (reservedConfig_iff.mp h).elim h7 h6
  have hl : ¬(adaptive s.ctrl ∧ s.catlock = false) := fun ⟨ha, hopen⟩ =>
    absurd (hfrozen (adaptive_iff.mp ha)) (ne_true_of_eq_false hopen)
  rw [exec_start_configured hs hc hw hh hm, if_neg hl]
  rfl

/-! ### `FEND` (R104) -/

theorem encode_fend : encode .fend = 0x21000000 := rfl

theorem exec_fend_idle {s : State} (hs : s.runState = .idle) : exec .fend s = .next s := by
  rw [exec, execFend, hs]

theorem exec_fend_run {s : State} (hs : s.runState = .run) :
    exec .fend s = .next (raise .malformedInput (encode .fend) s) := by
  rw [exec, execFend, hs]

/-- Settles O26: one case of `FEND` for each clause. -/
theorem fendEndsTheInput : Obligations.FendEndsTheInput := fun _ =>
  ⟨exec_fend_idle, encode_fend ▸ exec_fend_run⟩

/-! ### The raster advance (R105 to R107) -/

/-- Inside a scanline. -/
theorem advance_inside {s : State} (hx : s.xpos + 1 ≠ s.width) : advance s = { s with xpos := s.xpos + 1 } :=
  if_neg hx

/-- At the end of a scanline that is not the last, `u` what `line_end()` leaves. -/
theorem advance_at_lineEnd {s u : State} (hx : s.xpos + 1 = s.width) (hy : s.ypos + 1 ≠ s.height)
    (hu : lineEnd { s with xpos := s.xpos + 1 } = u) : advance s = { u with xpos := 0, ypos := s.ypos + 1 } := by
  subst hu
  rcases advance_cases s with ⟨hx', _⟩ | ⟨_, _, e⟩ | ⟨_, hy', _⟩
  · exact absurd hx hx'
  · exact e
  · exact absurd hy' hy

/-- At the end of the last scanline, `u` what `line_end()` leaves. -/
theorem advance_at_frameEnd {s u : State} (hx : s.xpos + 1 = s.width) (hy : s.ypos + 1 = s.height)
    (hu : lineEnd { s with xpos := s.xpos + 1 } = u) :
    advance s = frameEnd { u with xpos := 0, ypos := s.ypos + 1 } := by
  subst hu
  rcases advance_cases s with ⟨hx', _⟩ | ⟨_, hy', _⟩ | ⟨_, _, e⟩
  · exact absurd hx hx'
  · exact absurd hy hy'
  · exact e

/-- Settles O27: the mode decides whether `line_end()` and whether `frame_end()` emits the palette. -/
theorem advanceMovesOnePixel : Obligations.AdvanceMovesOnePixel := by
  rintro s _ rfl
  have other (h5 : s.modeNum ≠ 5) : lineEnd { s with xpos := s.xpos + 1 } = { s with xpos := s.xpos + 1 } :=
    lineEnd_other (mt modeOf_line.mp h5)
  have line (h5 : s.modeNum = 5) : lineEnd { s with xpos := s.xpos + 1 } =
      { emitPalette { s with xpos := s.xpos + 1 } with palcnt := 0, ovfl := false } :=
    lineEnd_line (modeOf_line.mpr h5)
  refine ⟨advance_inside, fun hx hy => ⟨fun h5 => ?_, fun h5 => ?_⟩,
    fun hx hy => ⟨fun h4 h5 => ?_, fun h4 => ?_, fun h5 => ?_⟩⟩
  · rw [advance_at_lineEnd hx hy (other h5)]
  · exact advance_at_lineEnd hx hy (line h5)
  · exact (advance_at_frameEnd hx hy (other h5)).trans (frameEnd_other (mt modeOf_glob.mp h4))
  · exact (advance_at_frameEnd hx hy (other (by omega))).trans (frameEnd_glob (modeOf_glob.mpr h4))
  · have h4 : s.modeNum ≠ 4 := by omega
    exact (advance_at_frameEnd hx hy (line h5)).trans (frameEnd_other (mt modeOf_glob.mp h4))

/-! ### The run that completes a frame (R101, R107) -/

/-- The host's pixel commands, none of them beyond the frame, are each taken in `RUN`: fewer of them leave the
position below the frame's size. -/
theorem runsFor_pixels {s : State} {pixels : List Instr} {rest : List HostEvent} (h : s.Inv) (hs : s.runState = .run)
    (ha : ∀ i ∈ pixels, acceptedPixel s.ctrl i = true)
    (hh : s.host = pixels.map (fun i => .word (encode i)) ++ rest)
    (hsize : s.position + pixels.length ≤ s.frameSize) : RunsFor pixels.length s := by
  intro n hn
  have hlen : (pixels.take n).length = n := List.length_take_of_le hn.le
  have hsplit : s.host = (pixels.take n).map (fun i => .word (encode i)) ++
      ((pixels.drop n).map (fun i => .word (encode i)) ++ rest) := by
    rw [hh, ← List.append_assoc, ← List.map_append, List.take_append_drop]
  obtain ⟨u, hu, hat⟩ := steps_pixels h hs (fun i hi => ha i (List.mem_of_mem_take hi)) hsplit (by omega)
  rw [hlen] at hu hat
  exact ⟨u, hu, hat.running (by omega)⟩

/-- Settles O29: after the last pixel the position is the frame's size, which no running frame has. -/
theorem frameCompletesOnItsLastPixel : Obligations.FrameCompletesOnItsLastPixel := by
  intro s pixels rest h hs ha hh hsize
  obtain ⟨t, ht, hat⟩ := steps_pixels h hs ha hh hsize.le
  obtain ⟨hdone, hrow⟩ := hat.live.completed_of_position_eq hat.inv.raster
    (by rw [hat.position, hat.progress.frameSize, hsize])
  obtain ⟨hx, hn, -⟩ := hat.inv.raster.idle hdone.1
  exact ⟨t, ht, hdone, by simpa using hat.host, hx, hrow.trans hat.progress.height, hn,
    runsFor_pixels h hs ha hh hsize.le⟩

end Sys2Proof.Machine

/-! # The pixel commands (R110 to R117)

Each pixel command is said once for each answer of its frame: dropped, refused, or packed and advanced over. The
accumulator is said case by case, and what a pixel leaves unchanged is a relation each operation of it keeps. -/

namespace Sys2Proof.Machine

/-! ### The answers of the pixel commands (R110) -/

/-- Settles O32: the frame common to the three commands drops a pixel in `IDLE`. -/
theorem pixelInIdleSetsTrailOnly : Obligations.PixelInIdleSetsTrailOnly := fun _ _ _ _ hs =>
  ⟨congrArg _ (pixelFrame_idle hs), congrArg _ (pixelFrame_idle hs), congrArg _ (pixelFrame_idle hs)⟩

theorem exec_pxg_rejected {s : State} (i : Byte) (hs : s.runState = .run) (hm : 4 ≤ s.modeNum) :
    exec (.pxg i) s = .next (raise .protocol (encode (.pxg i)) s) := by
  rw [exec, execPxg, acceptsGrey_eq, decide_eq_false (by omega), pixelFrame_rejects hs]

theorem exec_pxc_rejected {s : State} (rgb : Rgb) (hs : s.runState = .run) (h4 : s.modeNum ≠ 4) (h5 : s.modeNum ≠ 5) :
    exec (.pxc rgb) s = .next (raise .protocol (encode (.pxc rgb)) s) := by
  rw [exec, execPxc, acceptsColor_eq, decide_eq_false (not_or_intro h4 h5), pixelFrame_rejects hs]

theorem exec_pxi_rejected {s : State} (idx : Index) (hs : s.runState = .run) (hm : s.modeNum ≠ 6) :
    exec (.pxi idx) s = .next (raise .protocol (encode (.pxi idx)) s) := by
  rw [exec, execPxi, acceptsIndex_eq, decide_eq_false hm, pixelFrame_rejects hs]

/-- Settles O33: each command is refused in the modes whose numbers it does not accept. -/
theorem pixelOfTheWrongKindFaults : Obligations.PixelOfTheWrongKindFaults := fun _ i rgb idx hs =>
  ⟨exec_pxg_rejected i hs, exec_pxc_rejected rgb hs, exec_pxi_rejected idx hs⟩

theorem exec_pxg_accepted {s : State} (i : Byte) (hs : s.runState = .run) (hm : s.modeNum ≤ 3) :
    exec (.pxg i) s = .next (packAdvance (greyIndex i s) s) := by
  rw [exec, execPxg, acceptsGrey_eq, decide_eq_true hm, pixelFrame_accepts hs]

theorem exec_pxc_accepted {s : State} (rgb : Rgb) (hs : s.runState = .run) (hm : s.modeNum = 4 ∨ s.modeNum = 5) :
    exec (.pxc rgb) s = .next (packAdvance (accumulate rgb s).1 (accumulate rgb s).2) := by
  rw [exec, execPxc, acceptsColor_eq, decide_eq_true hm, pixelFrame_accepts hs]

theorem exec_pxi_accepted {s : State} {idx : Index} (hs : s.runState = .run) (hm : s.modeNum = 6)
    (hidx : idx.toNat < 2 ^ bpp s.ctrl) : exec (.pxi idx) s = .next (packAdvance idx s) :=
  exec_pxi_fits hs (by simp [acceptedPixel, acceptsIndex_eq, hm, hidx])

/-- Settles O35: `packAdvance` is the pack, then the advance. -/
theorem pxcAccumulatesPacksAdvances : Obligations.PxcAccumulatesPacksAdvances := fun _ rgb => exec_pxc_accepted rgb

/-! ### The index of a grey pixel (R111, R125) -/

/-- Steps of 16 and more leave a level that fits in an index. -/
theorem levelOf_toNat {step : Nat} (i : Byte) (h : 16 ≤ step) : (levelOf step i).toNat = i.toNat / step := by
  have hi : i.toNat < step * 2 ^ 4 := by have := i.isLt; omega
  rw [levelOf, BitVec.toNat_ofNat, Nat.mod_eq_of_lt (Nat.div_lt_of_lt_mul hi)]

theorem greyIndex_dir1 {s : State} (i : Byte) (hm : s.modeNum = 0) : greyIndex i s = levelOf 128 i := by
  simp [greyIndex, modeOf_eq, hm]

theorem greyIndex_dir2 {s : State} (i : Byte) (hm : s.modeNum = 1) : greyIndex i s = levelOf 64 i := by
  simp [greyIndex, modeOf_eq, hm]

theorem greyIndex_dir4 {s : State} (i : Byte) (hm : s.modeNum = 2) : greyIndex i s = levelOf 16 i := by
  simp [greyIndex, modeOf_eq, hm]

theorem greyIndex_dith {s : State} (i : Byte) (hm : s.modeNum = 3) :
    greyIndex i s = (dither i s.xpos s.ypos).setWidth 4 := by
  simp [greyIndex, modeOf_eq, hm]

/-- Settles O34: the index is `greyIndex`, the value of which each mode gives. -/
theorem pxgClassifiesOrDithers : Obligations.PxgClassifiesOrDithers := by
  intro s i hs hm
  refine ⟨greyIndex i s, exec_pxg_accepted i hs hm, fun h => ?_, fun h => ?_, fun h => ?_, fun h => ?_⟩
  · rw [greyIndex_dir1 i h, levelOf_toNat i (by decide)]
  · rw [greyIndex_dir2 i h, levelOf_toNat i (by decide)]
  · rw [greyIndex_dir4 i h, levelOf_toNat i (by decide)]
  · rw [greyIndex_dith i h, BitVec.toNat_setWidth_of_le (by decide), dither_eq]

/-! ### The accumulator (R113 to R117) -/

/-- The keys of the populated slots are distinct, so the search finds the slot that holds the colour (R26). -/
theorem slotOf_eq_some {s : State} {rgb : Rgb} {k : Fin 4} (h : AccumulatorOk s) (hk : k.val < s.palcnt.val)
    (hkey : (s.ps[k]).key = rgb) : slotOf rgb s = some k := by
  cases hfound : slotOf rgb s with
  | none => exact absurd hkey (slotOf_none.mp hfound k hk)
  | some j =>
    obtain ⟨hj, hjkey⟩ := slotOf_some hfound
    rw [h.distinct j k hj hk (hjkey.trans hkey.symm)]

theorem accumulate_known {s : State} {rgb : Rgb} {k : Fin 4} (hk : slotOf rgb s = some k) :
    accumulate rgb s = (BitVec.ofNat 4 k.val, s) := by
  rw [accumulate, hk]

theorem accumulate_new {s : State} {rgb : Rgb} (hk : slotOf rgb s = none) (hn : s.palcnt.val < 4) :
    accumulate rgb s = (BitVec.ofNat 4 s.palcnt.val, allocate rgb s) := by
  rw [accumulate, hk]
  exact if_pos hn

theorem accumulate_full {s : State} {rgb : Rgb} (hk : slotOf rgb s = none) (hn : s.palcnt.val = 4) :
    accumulate rgb s = (0, reportOverflow rgb s) := by
  rw [accumulate, hk]
  exact if_neg (by omega)

/-- Settles O37: the search finds slot `k` itself. -/
theorem knownColourKeepsItsIndex : Obligations.KnownColourKeepsItsIndex := fun _ _ _ h hk hkey =>
  accumulate_known (slotOf_eq_some h hk hkey)

theorem allocate_hit {s : State} {rgb : Rgb} {val : Byte} (h : catLookup s rgb = some val) :
    allocate rgb s = populate rgb val s := by
  rw [allocate_slots, h]

theorem allocate_miss {s : State} {rgb : Rgb} (h : catLookup s rgb = none) :
    allocate rgb s = reportUnreachable rgb (populate rgb 0 s) := by
  rw [allocate_slots, h]

/-- Settles O38: the slot written holds the colour with the catalog's value, 0 on a miss, and the miss is reported. -/
theorem newColourTakesTheNextSlot : Obligations.NewColourTakesTheNextSlot := by
  intro s rgb hnew hn
  have hk := slotOf_none.mpr hnew
  refine ⟨s.ps.set s.palcnt.val ⟨rgb, (catLookup s rgb).getD 0⟩ hn, Fin.ofNat 5 (s.palcnt.val + 1),
    Nat.mod_eq_of_lt (by omega), by simp, fun k hne => ?_, fun v hv => ?_, fun hmiss => ?_⟩
  · exact Vector.getElem_set_ne hn k.isLt hne.symm
  · rw [accumulate_new hk hn, allocate_hit hv, populate_below hn]
    simp [hv]
  · rw [accumulate_new hk hn, allocate_miss hmiss, populate_below hn, hmiss]
    exact ⟨by simp, satIncr s.unrcnt, satIncr_toNat _, rfl⟩

theorem reportOverflow_first {s : State} (rgb : Rgb) (ho : s.ovfl = false) :
    reportOverflow rgb s = appendEvent .paletteOverflow rgb (markOverflow s) := by
  simp [reportOverflow, ho]

theorem reportOverflow_later {s : State} (rgb : Rgb) (ho : s.ovfl = true) : reportOverflow rgb s = s :=
  if_pos ho

/-- Settles O39: the search fails on the four slots, and `OVFL` decides whether the overflow is reported. -/
theorem fifthColourClampsToIndexZero : Obligations.FifthColourClampsToIndexZero := by
  intro s rgb hnew hn
  rw [accumulate_full (slotOf_none.mpr fun k _ => hnew k) hn]
  refine ⟨fun ho => ⟨satIncr s.ovfcnt, satIncr_toNat _, ?_⟩, fun ho => ?_⟩
  · rw [reportOverflow_first rgb ho]
    rfl
  · rw [reportOverflow_later rgb ho]

/-- An allocation populates the next slot with the colour and touches no slot else (R113). -/
theorem allocate_accumulator (rgb : Rgb) {s : State} (hn : s.palcnt.val < 4) :
    ∃ hw, (allocate rgb s).ps = s.ps.set s.palcnt.val ⟨rgb, hw⟩ hn ∧
      (allocate rgb s).palcnt.val = s.palcnt.val + 1 := by
  have hps (hw : Byte) : (populate rgb hw s).ps = s.ps.set s.palcnt.val ⟨rgb, hw⟩ hn := by rw [populate_below hn]
  rcases allocate_cases rgb s with e | e <;> rw [e]
  · exact ⟨_, hps _, populate_palcnt hn⟩
  · exact ⟨_, hps _, populate_palcnt hn⟩

/-- Settles O40: the four cases of `accumulate`; an overflow answers slot 0, populated as all four are. -/
theorem packedIndexResolvesToItsSlot : Obligations.PackedIndexResolvesToItsSlot := by
  intro s rgb _
  rcases accumulate_cases rgb s with ⟨k, hk, e⟩ | ⟨_, hn, e⟩ | ⟨_, hn, _, e⟩ | ⟨_, hn, _, e⟩ <;> rw [e]
  case inl =>
    obtain ⟨hlt, hkey⟩ := slotOf_some hk
    exact ⟨k, Nat.mod_eq_of_lt (by omega), hlt, .inl hkey, fun _ _ => rfl⟩
  case inr.inl =>
    obtain ⟨hw, hps, hcnt⟩ := allocate_accumulator rgb hn
    refine ⟨⟨s.palcnt.val, hn⟩, Nat.mod_eq_of_lt (by omega), hcnt ▸ Nat.lt_succ_self _, .inl ?_, fun j hj => ?_⟩
    · simp [hps]
    · simpa [hps] using Vector.getElem_set_ne hn j.isLt hj.ne'
  case inr.inr.inl | inr.inr.inr =>
    have hpos : 0 < s.palcnt.val := by omega
    exact ⟨0, rfl, hpos, .inr ⟨rfl, hn⟩, fun _ _ => rfl⟩

/-! ### What a pixel leaves unchanged (R111, R112, R133) -/

/-- `t` differs from `s` at most in the position, the packer, `PIXOUT`, `STATE` and `DONE`. -/
def SameButPixel (s t : State) : Prop :=
  t = { s with xpos := t.xpos, ypos := t.ypos, pacc := t.pacc, pcnt := t.pcnt, pixout := t.pixout,
               runState := t.runState, done := t.done }

/-- `t` differs from `s` at most there and in the accumulator, `PALOUT`, `DIAG` and the events' flags and counters. -/
def SameButColourPixel (s t : State) : Prop :=
  t = { s with xpos := t.xpos, ypos := t.ypos, pacc := t.pacc, pcnt := t.pcnt, pixout := t.pixout,
               runState := t.runState, done := t.done, ps := t.ps, palcnt := t.palcnt, palout := t.palout,
               diag := t.diag, ovfl := t.ovfl, ovf := t.ovf, unr := t.unr, ovfcnt := t.ovfcnt,
               unrcnt := t.unrcnt }

theorem SameButPixel.trans {s t u : State} (h : SameButPixel s t) (h' : SameButPixel t u) : SameButPixel s u :=
  Eq.trans h' (by rw [h])

theorem SameButColourPixel.trans {s t u : State} (h : SameButColourPixel s t) (h' : SameButColourPixel t u) :
    SameButColourPixel s u :=
  Eq.trans h' (by rw [h])

theorem SameButPixel.modeNum {s t : State} (h : SameButPixel s t) : t.modeNum = s.modeNum :=
  modeNum_congr (by rw [h])

theorem SameButPixel.colour {s t : State} (h : SameButPixel s t) : SameButColourPixel s t :=
  Eq.trans h (by rw [h])

theorem pack_sameButPixel (idx : Index) (s : State) : SameButPixel s (pack idx s) := by
  obtain ⟨l, acc, n, e⟩ := pack_writes idx s
  rw [e]
  rfl

/-- In the modes without an accumulator neither a scanline end nor the frame end emits a palette (R143). -/
theorem packAdvance_sameButPixel {s : State} (idx : Index) (h4 : s.modeNum ≠ 4) (h5 : s.modeNum ≠ 5) :
    SameButPixel s (packAdvance idx s) := by
  refine advance_keeps (fun _ _ _ h => h.trans rfl) (fun u h => ?_) (fun u h => ?_) (pack_sameButPixel idx s)
  · rwa [lineEnd_other (mt modeOf_line.mp (h.modeNum ▸ h5))]
  · rw [frameEnd_other (mt modeOf_glob.mp (h.modeNum ▸ h4))]
    exact h.trans rfl

/-- Settles O47: the index differs, the pack and the advance are the same. -/
theorem greyAndRawPixelFrame : Obligations.GreyAndRawPixelFrame := by
  rintro s t hs (⟨i, hm, he⟩ | ⟨idx, hm, hidx, he⟩)
  · cases (exec_pxg_accepted i hs hm).symm.trans he
    exact packAdvance_sameButPixel _ (by omega) (by omega)
  · cases (exec_pxi_accepted hs hm hidx).symm.trans he
    exact packAdvance_sameButPixel _ (by omega) (by omega)

theorem advance_sameButColourPixel (s : State) : SameButColourPixel s (advance s) := by
  refine advance_keeps (P := SameButColourPixel s) (fun _ _ _ h => h.trans rfl) (fun u h => ?_) (fun u h => ?_) rfl
  · rcases lineEnd_writes u with e | e <;> rw [e]
    · exact h
    · exact h.trans rfl
  · obtain ⟨l, e⟩ := frameEnd_writes u
    rw [e]
    exact h.trans rfl

theorem allocate_sameButColourPixel (rgb : Rgb) {s : State} (hn : s.palcnt.val < 4) :
    SameButColourPixel s (allocate rgb s) := by
  rcases allocate_cases rgb s with e | e <;> rw [e, populate_below hn] <;> rfl

theorem accumulate_sameButColourPixel (rgb : Rgb) (s : State) : SameButColourPixel s (accumulate rgb s).2 := by
  rcases accumulate_cases rgb s with ⟨_, _, e⟩ | ⟨_, hn, e⟩ | ⟨_, _, _, e⟩ | ⟨_, _, _, e⟩ <;> rw [e]
  case inl | inr.inr.inl | inr.inr.inr => rfl
  case inr.inl => exact allocate_sameButColourPixel rgb hn

/-- Settles O48: the accumulator, the pack and the advance each keep the rest. -/
theorem colourPixelFrame : Obligations.ColourPixelFrame := by
  intro s t rgb hs hm he
  cases (exec_pxc_accepted rgb hs hm).symm.trans he
  exact ((accumulate_sameButColourPixel rgb s).trans (pack_sameButPixel _ _).colour).trans
    (advance_sameButColourPixel _)

end Sys2Proof.Machine

/-! # The ditherer (R120 to R126) -/

namespace Sys2Proof.Machine

/-- LUT-MONO between any two buckets, from its steps between neighbours (R123). -/
theorem ditherLut_level_monotone (xm ym : Fin 4) : Monotone fun b => (Config.ditherLut.level b xm ym).toNat :=
  Fin.monotone_iff_le_succ.mpr fun b => Config.ditherLut.lutMono b xm ym

/-- Settles O41: the intensity's bucket selects the row that LUT-ZERO, LUT-FULL or LUT-MONO speaks of. -/
theorem ditherMeetsTheTableConstraints : Obligations.DitherMeetsTheTableConstraints := by
  intro i j x y
  have hi := i.isLt
  have hj := j.isLt
  simp only [dither_eq]
  refine ⟨fun hlow => ?_, fun hhigh => ?_, fun hle => ?_⟩
  · have hbucket : i.toNat / 16 = 0 := Nat.div_eq_of_lt hlow
    rw [hbucket]
    exact Config.ditherLut.lutZero _ _
  · have hbucket : i.toNat / 16 = 15 := by omega
    rw [hbucket]
    exact Config.ditherLut.lutFull _ _
  · have hrow : Fin.ofNat 16 (i.toNat / 16) ≤ Fin.ofNat 16 (j.toNat / 16) := by
      simp only [Fin.le_def, Fin.val_ofNat]
      omega
    exact ditherLut_level_monotone _ _ hrow

/-- Settles O42: the table is read at the bucket and at the two coordinates modulo 4. -/
theorem ditherDependsOnBucketAndCell : Obligations.DitherDependsOnBucketAndCell := by
  intro i j x y x' y' hbucket hx hy
  have hxm : Fin.ofNat 4 x.toNat = Fin.ofNat 4 x'.toNat := Fin.ext hx
  have hym : Fin.ofNat 4 y.toNat = Fin.ofNat 4 y'.toNat := Fin.ext hy
  rw [dither_eq, dither_eq, hbucket, hxm, hym]

end Sys2Proof.Machine

/-! # The bit packer (R130 to R133)

What a group packs to is said once, in fields of `bpp()` bits; the round trip is that fact, and the layouts are
its instances read as numbers. -/

namespace Sys2Proof.Machine

/-! ### One index (R130, R133) -/

/-- Settles O44: the two branches of `pack`. -/
theorem packShiftsInOneIndex : Obligations.PackShiftsInOneIndex := fun s idx =>
  ⟨(s.pacc <<< bpp s.ctrl) ||| idx.setWidth 8, packed_toNat s idx, pack_full, fun hpart hlt =>
    ⟨Fin.ofNat 8 (s.pcnt.val + 1), Nat.mod_eq_of_lt (by omega), pack_partial hpart⟩⟩

/-- The bits of an index in `RAW`, from the number of `RAWBPP` (R15). -/
theorem bpp_raw {s : State} {b : Nat} (hm : s.modeNum = 6)
    (hb : s.rawbppNum = 0 ∧ b = 1 ∨ s.rawbppNum = 1 ∧ b = 2 ∨ s.rawbppNum = 2 ∧ b = 4) : bpp s.ctrl = b := by
  obtain ⟨-, -, -, raw0, raw1, raw2⟩ := bitsOfAnIndexByMode s
  obtain ⟨hr, rfl⟩ | ⟨hr, rfl⟩ | ⟨hr, rfl⟩ := hb
  · exact raw0 hm hr
  · exact raw1 hm hr
  · exact raw2 hm hr

/-- A raw index wider than `bpp()` is refused (R133). -/
theorem exec_pxi_tooWide {s : State} {idx : Index} (hs : s.runState = .run) (hm : s.modeNum = 6)
    (hidx : 2 ^ bpp s.ctrl ≤ idx.toNat) : exec (.pxi idx) s = .next (raise .protocol (encode (.pxi idx)) s) := by
  rw [exec, execPxi, acceptsIndex_eq, decide_eq_true hm, pixelFrame_accepts hs, if_pos hidx]

/-- Settles O36: `RAWBPP` gives the width, and the index fits in it or not. -/
theorem pxiPacksAnIndexThatFits : Obligations.PxiPacksAnIndexThatFits := by
  intro s idx b hs hm hb
  rw [← bpp_raw hm hb]
  exact ⟨exec_pxi_accepted hs hm, exec_pxi_tooWide hs hm⟩

/-! ### A group of indices (R131, R132) -/

theorem HoldsFields.nil (b v : Nat) : HoldsFields b v [] := nofun

/-- The first index is the field above those of the rest. -/
theorem holdsFields_cons {b v : Nat} {i : Index} {l : List Index} :
    HoldsFields b v (i :: l) ↔ v / 2 ^ (b * l.length) % 2 ^ b = i.toNat ∧ HoldsFields b v l := by
  have hpos (k : Nat) : l.length - (k + 1) = l.length - 1 - k := by omega
  constructor
  · intro h
    refine ⟨h 0 l.length.succ_pos, fun k hk => ?_⟩
    rw [← hpos]
    exact h (k + 1) (Nat.succ_lt_succ hk)
  · rintro ⟨hfirst, hrest⟩ (_ | k) hk
    · exact hfirst
    · rw [List.length_cons, Nat.add_sub_cancel, hpos]
      exact hrest k (Nat.lt_of_succ_lt_succ hk)

/-- The number the indices `l` spell in fields of `b` bits, the first most significant (R131). -/
def fieldsValue (b : Nat) : List Index → Nat
  | [] => 0
  | i :: l => i.toNat * 2 ^ (b * l.length) + fieldsValue b l

/-- Fields determine the bits they fill. -/
theorem HoldsFields.mod_eq {b v : Nat} {l : List Index} (h : HoldsFields b v l) :
    v % 2 ^ (b * l.length) = fieldsValue b l := by
  induction l with
  | nil => simp [fieldsValue, Nat.mod_one]
  | cons i l ih =>
    obtain ⟨hfirst, hrest⟩ := holdsFields_cons.mp h
    rw [List.length_cons, Nat.mul_add_one, pow_add, Nat.mod_mul, hfirst, ih hrest, fieldsValue]
    ring

/-- Bits above the fields do not matter: the fields survive in a word they fit in. -/
theorem HoldsFields.mod_two_pow {b v w : Nat} {l : List Index} (h : HoldsFields b v l) (hw : b * l.length ≤ w) :
    HoldsFields b (v % 2 ^ w) l := by
  intro k hk
  have hroom : b * (l.length - 1 - k) + b ≤ w := by
    rw [← Nat.mul_add_one]
    exact (Nat.mul_le_mul_left b (by omega)).trans hw
  obtain ⟨above, rfl⟩ := Nat.exists_eq_add_of_le hroom
  rw [← h k hk, Nat.add_assoc, pow_add, Nat.mod_mul_right_div_self,
    Nat.mod_mod_of_dvd _ (pow_dvd_pow 2 (Nat.le_add_right _ _))]

/-- `pack`'s shift adds one field to the byte under construction, when the byte has room for it (R130). -/
theorem HoldsFields.shiftIn {s : State} {held : List Index} {idx : Index}
    (h : HoldsFields (bpp s.ctrl) s.pacc.toNat held) (hidx : idx.toNat < 2 ^ bpp s.ctrl)
    (hroom : bpp s.ctrl * (held.length + 1) ≤ 8) :
    HoldsFields (bpp s.ctrl) ((s.pacc <<< bpp s.ctrl) ||| idx.setWidth 8).toNat (held ++ [idx]) := by
  rw [packed_toNat]
  exact (h.push hidx).mod_two_pow (w := 8) (by simpa using hroom)

/-- The indices that complete the byte under construction emit it: one byte, which holds the indices already packed
and then these, and the packer is left empty (R130). -/
theorem foldl_pack_completes {s : State} {held group : List Index} (hfill : bpp s.ctrl * ppb s.ctrl = 8)
    (hcnt : held.length = s.pcnt.val) (hheld : HoldsFields (bpp s.ctrl) s.pacc.toNat held)
    (hlt : s.pcnt.val < ppb s.ctrl) (hlen : s.pcnt.val + group.length = ppb s.ctrl)
    (hfits : ∀ i ∈ group, i.toNat < 2 ^ bpp s.ctrl) :
    ∃ byte : Byte, group.foldl (fun t i => pack i t) s =
        { s with pixout := s.pixout ++ [byte], pacc := 0, pcnt := 0 } ∧
      HoldsFields (bpp s.ctrl) byte.toNat (held ++ group) := by
  induction group generalizing s held with
  | nil => exact absurd hlen hlt.ne
  | cons idx rest ih =>
    obtain ⟨hidx, hrest⟩ := List.forall_mem_cons.mp hfits
    rw [List.length_cons] at hlen
    have hpush := hheld.shiftIn hidx ((Nat.mul_le_mul_left _ (by omega)).trans_eq hfill)
    rw [List.foldl_cons]
    by_cases hfull : s.pcnt.val + 1 = ppb s.ctrl
    · obtain rfl : rest = [] := List.eq_nil_of_length_eq_zero (by omega)
      exact ⟨_, pack_full hfull, hpush⟩
    · have hppb : ppb s.ctrl ≤ 8 := Nat.le_of_dvd (by decide) (Dvd.intro_left _ hfill)
      have hnext : (Fin.ofNat 8 (s.pcnt.val + 1)).val = s.pcnt.val + 1 := Nat.mod_eq_of_lt (by omega)
      have hheldNext : (held ++ [idx]).length = s.pcnt.val + 1 := by simp [hcnt]
      rw [pack_partial hfull, List.append_cons]
      exact ih hfill (hheldNext.trans hnext.symm) hpush (by simp only [hnext]; omega)
        (by simp only [hnext]; omega) hrest

/-- From an empty packer a whole group of `b`-bit indices is one byte that holds it, and nothing else changes (R131). -/
theorem foldl_pack_group {s : State} {b : Nat} {group : List Index} (hacc : s.pacc = 0) (hcnt : s.pcnt = 0)
    (hb : bpp s.ctrl = b) (hlen : b * group.length = 8) (hfits : ∀ i ∈ group, i.toNat < 2 ^ b) :
    ∃ byte : Byte, group.foldl (fun t i => pack i t) s = { s with pixout := s.pixout ++ [byte] } ∧
      HoldsFields b byte.toNat group := by
  subst hb
  obtain ⟨hbpos, hlpos⟩ : 0 < bpp s.ctrl ∧ 0 < group.length := CanonicallyOrderedAdd.mul_pos.mp (by omega)
  have hppb : group.length = ppb s.ctrl := by rw [ppb, ← hlen, Nat.mul_div_cancel_left _ hbpos]
  obtain ⟨byte, hpack, hfields⟩ := foldl_pack_completes (hppb ▸ hlen) (by simp [hcnt]) (.nil _ _)
    (by simpa [hcnt, ← hppb] using hlpos) (by simpa [hcnt] using hppb) hfits
  refine ⟨byte, hpack.trans ?_, hfields⟩
  rw [← hacc, ← hcnt]

/-- Settles O46: the emitted byte holds the group. -/
theorem packingRoundTrip : Obligations.PackingRoundTrip := by
  intro s group hacc hcnt hconfig hlen hfits
  rw [← hlen]
  exact foldl_pack_group hacc hcnt rfl (hlen ▸ bpp_mul_ppb hconfig) hfits

/-- The value of that byte, which the group's fields fill (R131). -/
theorem foldl_pack_value {s : State} {b : Nat} {group : List Index} (hacc : s.pacc = 0) (hcnt : s.pcnt = 0)
    (hb : bpp s.ctrl = b) (hlen : b * group.length = 8) (hfits : ∀ i ∈ group, i.toNat < 2 ^ b) :
    ∃ byte : Byte, group.foldl (fun t i => pack i t) s = { s with pixout := s.pixout ++ [byte] } ∧
      byte.toNat = fieldsValue b group := by
  obtain ⟨byte, hpack, hfields⟩ := foldl_pack_group hacc hcnt hb hlen hfits
  refine ⟨byte, hpack, ?_⟩
  rw [← hfields.mod_eq, hlen, Nat.mod_eq_of_lt byte.isLt]

/-- Settles O45: the value of the byte, for the group of each depth. -/
theorem packedByteLayouts : Obligations.PackedByteLayouts := by
  intro s hacc hcnt
  refine ⟨fun hb i0 i1 i2 i3 h0 h1 h2 h3 => ?_, fun hb i0 i1 i2 i3 i4 i5 i6 i7 h0 h1 h2 h3 h4 h5 h6 h7 => ?_,
    fun hb i0 i1 => ?_⟩
  · obtain ⟨byte, hpack, hvalue⟩ := foldl_pack_value (group := [i0, i1, i2, i3]) hacc hcnt hb rfl (by simp; omega)
    exact ⟨byte, hpack, by simpa [fieldsValue, Nat.add_assoc] using hvalue⟩
  · obtain ⟨byte, hpack, hvalue⟩ := foldl_pack_value (group := [i0, i1, i2, i3, i4, i5, i6, i7]) hacc hcnt hb rfl
      (by simp; omega)
    exact ⟨byte, hpack, by simpa [fieldsValue, Nat.add_assoc] using hvalue⟩
  · obtain ⟨byte, hpack, hvalue⟩ := foldl_pack_value (group := [i0, i1]) hacc hcnt hb rfl fun i _ => i.isLt
    exact ⟨byte, hpack, by simpa [fieldsValue] using hvalue⟩

end Sys2Proof.Machine

/-! # The palette emitter (R140, R143) -/

namespace Sys2Proof.Machine

theorem SameButPixel.palout {s t : State} (h : SameButPixel s t) : t.palout = s.palout := by rw [h]

/-- No effect of a command writes `PALOUT` in a mode without an accumulator, which has no colour pixels (R143). -/
theorem exec_palout {i : Instr} {s t : State} (h4 : s.modeNum ≠ 4) (h5 : s.modeNum ≠ 5) (h : exec i s = .next t) :
    t.palout = s.palout := by
  cases exec_effect h with
  | grey | index => exact (packAdvance_sameButPixel _ h4 h5).palout
  | color _ _ ha => exact absurd (adaptive_iff.mp (adaptive_of_acceptsColor ha)) (not_or_intro h4 h5)
  | write => exact regWrite_palout ..
  | append => exact writeEntry_palout ..
  | nothing | fault | reset | read | clear | lock | begin | trail => rfl

theorem illegalWord_palout (w : Word) (s : State) : (illegalWord w s).palout = s.palout := by
  by_cases hs : s.runState = .fault
  · rw [illegalWord_fault hs]
  · rw [illegalWord_raises hs, raise_palout]

/-- Settles O50: neither a command nor an illegal word appends, and the reset input is excluded. -/
theorem noPaletteBytesOutsideAdaptiveModes : Obligations.NoPaletteBytesOutsideAdaptiveModes := by
  intro s t h4 h5 hreset ht
  obtain ⟨_, rfl⟩ | ⟨_, rest, _, _, _, he⟩ | ⟨w, rest, _, _, _, rfl⟩ | ⟨_, _, hhost, _⟩ := step_cases ht
  · rfl
  · exact exec_palout (s := { s with host := rest }) h4 h5 he
  · exact illegalWord_palout w { s with host := rest }
  · simp [hardResetNext, hhost] at hreset

/-- The emitted bytes as one list over the slots (R140). -/
theorem emitPalette_ofFn (s : State) :
    emitPalette s = { s with palout := s.palout ++ List.ofFn (paletteByte s) } := by
  simp [emitPalette, List.ofFn_succ]

/-- Settles O49: the bytes are those of the four slots, in order. -/
theorem emitterAppendsFourBytes : Obligations.EmitterAppendsFourBytes := fun s =>
  ⟨List.ofFn (paletteByte s), emitPalette_ofFn s, List.length_ofFn, fun k => List.getElem?_ofFn.trans (dif_pos k.isLt)⟩

end Sys2Proof.Machine

/-! # Faults (R150 to R168) -/

namespace Sys2Proof.Machine

/-! ### Taking a fault (R160) and the words that are no command (R155) -/

/-- Settles O51: `raise` writes what R160 lists, with the code R151 gives the cause. -/
theorem faultEntryRecordsTheCause : Obligations.FaultEntryRecordsTheCause := by
  intro c w s
  refine ⟨causeCode c, rfl, ?_, ?_, ?_, ?_, ?_, ?_, ?_⟩ <;> rintro rfl <;> rfl

theorem step_illegal {s : State} {w : Word} {rest : List HostEvent} {why : DecodeError}
    (hhost : s.host = .word w :: rest) (hdecode : decode w = .illegal why) :
    step s = .next (illegalWord w { s with host := rest }) := by
  rw [step_word hhost, runWord, hdecode]

/-- Settles O7: an illegal word raises outside `FAULT` whatever the rest of the state, and is dropped in it. -/
theorem stepOnAnIllegalWord : Obligations.StepOnAnIllegalWord := by
  intro s w rest why hhost hdecode
  rw [step_illegal hhost hdecode]
  constructor
  · intro hs
    rw [illegalWord_raises (s := { s with host := rest }) hs]
    rfl
  · intro hs
    rw [illegalWord_fault (s := { s with host := rest }) hs]

/-- Settles O8: no action of the host, no change. -/
theorem idleStepKeepsTheState : Obligations.IdleStepKeepsTheState := fun _ => step_empty

/-! ### A fault is precise (R154, R160) -/

/-- The codes of the causes a command can raise, without that of `INPUT_SIZE_MISMATCH` (R151, R154). -/
theorem causeCode_mem_of_raisable : ∀ c ∈ raisable,
    causeCode c ∈ ([0x01, 0x02, 0x04, 0x05, 0x06, 0x07] : List Byte) := by
  decide

/-- A pixel taken in `RUN` does not fail the frame: it stays in `RUN` or completes (R110). -/
theorem packAdvance_runState_ne_fault (idx : Index) {s : State} (hs : s.runState = .run) :
    (packAdvance idx s).runState ≠ .fault := by
  have hlive : FrameLive (packAdvance idx s) := advance_live (by simpa using hs)
  rcases hlive with h | ⟨⟨h, _⟩, _⟩ <;> simp [h]

/-- Settles O52: of the effects of a command only the fault enters `FAULT`. -/
theorem faultsArePrecise : Obligations.FaultsArePrecise := by
  intro i s t hs h ht
  cases exec_effect h with
  | fault _ c _ hc => exact ⟨causeCode c, causeCode_mem_of_raisable c hc, rfl⟩
  | reset | begin => nomatch ht
  | nothing | read | clear | lock | trail => exact absurd ht hs
  | write | append => exact absurd (by simpa using ht) hs
  | grey _ hrun | index _ hrun => exact absurd ht (packAdvance_runState_ne_fault _ hrun)
  | color _ hrun => exact absurd ht (packAdvance_runState_ne_fault _ (by simpa using hrun))

/-! ### What is left to do in `FAULT` (R161, R162) -/

/-- In `FAULT` a command is dropped, but for `SRST` and `RD`. -/
theorem exec_fault_cases {i : Instr} {s t : State} (hs : s.runState = .fault) (h : exec i s = .next t) :
    t = s ∨ i = .srst ∨ ∃ r, i = .rd r ∧ t = { s with rsp := s.rsp ++ [(regRead s r).setWidth 32] } := by
  cases exec_effect h with
  | nothing => exact .inl rfl
  | reset => exact .inr (.inl rfl)
  | read r => exact .inr (.inr ⟨r, rfl, rfl⟩)
  | fault _ _ hne => exact absurd hs hne
  | write _ _ h' | clear h' | append _ h' | lock h' | begin h' | trail _ h' | grey _ h' | color _ h' | index _ h' =>
    simp [hs] at h'

/-- Settles O53: the command is neither of the two that act in `FAULT`. -/
theorem faultDropsCommands : Obligations.FaultDropsCommands := by
  intro i s hs _ hsrst hrd
  obtain ⟨t, h⟩ := exec_answers i s
  obtain rfl | hi | ⟨r, hi, _⟩ := exec_fault_cases hs h
  · exact h
  · exact absurd hi hsrst
  · exact absurd hi (hrd r)

/-- A command other than `SRST` writes at most `RSP` in `FAULT`. -/
theorem exec_writes_only_rsp_in_fault {i : Instr} {s t : State} (hs : s.runState = .fault) (hi : i ≠ .srst)
    (h : exec i s = .next t) : t = { s with rsp := t.rsp } := by
  obtain rfl | hsrst | ⟨_, _, rfl⟩ := exec_fault_cases hs h
  · rfl
  · exact absurd hsrst hi
  · rfl

/-- Settles O54: with the two resets excluded, a step in `FAULT` drops its word or answers an `RD`. -/
theorem onlyResetLeavesFault : Obligations.OnlyResetLeavesFault := by
  intro s t hs ht hreset
  obtain ⟨hhost, rfl⟩ | ⟨w, rest, i, hhost, hd, he⟩ | ⟨w, rest, _, hhost, _, rfl⟩ | ⟨_, _, hhost, _⟩ := step_cases ht
  · rw [hhost, List.tail_nil, ← hhost]
  · have hi : i ≠ .srst := by
      rintro rfl
      simp [resetNext, hhost, word_of_decode_srst hd] at hreset
    rw [hhost]
    exact exec_writes_only_rsp_in_fault (s := { s with host := rest }) hs hi he
  · rw [hhost, illegalWord_fault (s := { s with host := rest }) hs]
    rfl
  · simp [resetNext, hhost] at hreset

/-! ### Diagnostic records (R158, R164) -/

/-- `DIAG` of `t` is that of `s` followed by at most one record. -/
def AppendsAtMostOneRecord (s t : State) : Prop := ∃ l : List DiagRec, t.diag = s.diag ++ l ∧ l.length ≤ 1

theorem AppendsAtMostOneRecord.of_diag_eq {s t : State} (h : t.diag = s.diag) : AppendsAtMostOneRecord s t :=
  ⟨[], by rw [h, List.append_nil], by simp⟩

theorem AppendsAtMostOneRecord.of_diag_append {s t : State} {r : DiagRec} (h : t.diag = s.diag ++ [r]) :
    AppendsAtMostOneRecord s t :=
  ⟨[r], h, by simp⟩

/-- `UNREACHABLE_COLOR` is reported for a new colour only, `PALETTE_OVERFLOW` for one without a slot: never both
for one colour (R113, R115, R116). -/
theorem accumulate_appendsAtMostOneRecord (rgb : Rgb) (s : State) :
    AppendsAtMostOneRecord s (accumulate rgb s).2 := by
  rcases accumulate_cases rgb s with ⟨_, _, e⟩ | ⟨_, _, e⟩ | ⟨_, _, _, e⟩ | ⟨_, _, _, e⟩ <;> rw [e]
  case inl | inr.inr.inr => exact .of_diag_eq rfl
  case inr.inr.inl => exact .of_diag_append rfl
  case inr.inl =>
    rcases allocate_cases rgb s with e | e <;> rw [e]
    · exact .of_diag_eq (by simp)
    · exact .of_diag_append (r := ⟨0x11, s.ypos, s.xpos, rgb.setWidth 32⟩) (by simp)

theorem packAdvance_diag (idx : Index) (s : State) : (packAdvance idx s).diag = s.diag := by
  simp [packAdvance]

/-- Settles O55: a fault appends its record and a colour pixel at most that of one event; nothing else appends. -/
theorem atMostOneRecordPerCommand : Obligations.AtMostOneRecordPerCommand := by
  intro i s t h
  change AppendsAtMostOneRecord s t
  cases exec_effect h with
  | fault => exact .of_diag_append rfl
  | nothing | reset | read | clear | lock | begin | trail => exact .of_diag_eq rfl
  | write | append => exact .of_diag_eq (by simp)
  | grey | index => exact .of_diag_eq (packAdvance_diag _ s)
  | color rgb =>
    obtain ⟨l, hl, hlen⟩ := accumulate_appendsAtMostOneRecord rgb s
    exact ⟨l, (packAdvance_diag _ _).trans hl, hlen⟩

/-- Settles O57: each field is the last of the concatenation up to it, once the fields below it are passed. -/
theorem diagElementLayout : Obligations.DiagElementLayout := by
  intro r
  refine ⟨?_, ?_, ?_, BitVec.extractLsb'_append_eq_right⟩ <;> unfold diagBits
  · rw [BitVec.extractLsb'_append_eq_of_le (by decide), BitVec.extractLsb'_append_eq_of_le (by decide)]
    exact BitVec.extractLsb'_append_eq_left
  · rw [BitVec.extractLsb'_append_eq_of_le (by decide), BitVec.extractLsb'_append_eq_of_le (by decide)]
    exact BitVec.extractLsb'_append_eq_right
  · rw [BitVec.extractLsb'_append_eq_of_le (by decide)]
    exact BitVec.extractLsb'_append_eq_right

end Sys2Proof.Machine

/-! # Reset and hazards (R180 to R192)

What a step does with the host's list, the reset input, and a read directly behind a write. -/

namespace Sys2Proof.Machine

/-! ### The host's list (R44, R191) -/

/-- No effect of a command writes the host's list. -/
theorem exec_host {i : Instr} {s t : State} (h : exec i s = .next t) : t.host = s.host := by
  cases exec_effect h with
  | write => exact regWrite_host ..
  | append => exact writeEntry_host ..
  | grey | color | index => simp [packAdvance]
  | nothing | fault | reset | read | clear | lock | begin | trail => rfl

theorem illegalWord_host (w : Word) (s : State) : (illegalWord w s).host = s.host := by
  by_cases hs : s.runState = .fault
  · rw [illegalWord_fault hs]
  · rw [illegalWord_raises hs, raise_host]

/-- Every word, legal or not, and every other action of the host has an outcome (R191). -/
theorem step_answers (s : State) : ∃ t, step s = .next t := by
  cases hhost : s.host with
  | nil => exact ⟨s, step_empty hhost⟩
  | cons e rest =>
    cases e with
    | word w => exact step_word hhost ▸ runWord_answers w _
    | reset lost => exact ⟨_, step_reset hhost⟩

/-- Whatever a step does, it takes one of the host's actions off the front of the list. -/
theorem step_host {s t : State} (h : step s = .next t) : t.host = s.host.tail := by
  obtain ⟨hhost, rfl⟩ | ⟨_, rest, _, hhost, _, he⟩ | ⟨w, rest, _, hhost, _, rfl⟩ | ⟨_, _, hhost, rfl⟩ := step_cases h
  · rw [hhost, List.tail_nil]
  · rw [hhost, List.tail_cons, exec_host he]
  · rw [hhost, List.tail_cons, illegalWord_host]
  · rw [hhost, List.tail_cons, hardReset_host]

/-- Settles O9: a step answers, and any answer leaves the tail of the host's list. -/
theorem everyStepAnswersAndTakesOneAction : Obligations.EveryStepAnswersAndTakesOneAction := fun s =>
  (step_answers s).imp fun _ ht => ⟨ht, step_host ht⟩

/-! ### The reset input (R180) -/

/-- The reset input gives the reset values, none of which is the host's list (R33). -/
theorem hardReset_atReset (s : State) : AtReset (hardReset s) :=
  { resetStateValues.1 with }

/-- Settles O12: the word in transfer is no argument of the reset, and the rest of the list stays. -/
theorem hardwareResetStep : Obligations.HardwareResetStep := fun s _ rest hhost =>
  ⟨hardReset { s with host := rest }, step_reset hhost, hardReset_atReset _, rfl, rfl, rfl, rfl, rfl⟩

/-! ### A read directly behind a write (R192) -/

/-- The mask of a write makes that of the read redundant (R41). -/
theorem and_mask_idem (v mask : Half) : v &&& mask &&& mask = v &&& mask := by
  rw [BitVec.and_assoc, BitVec.and_self]

/-- An `RD` directly behind an accepted `WR` appends what the register reads as once written. -/
theorem exec_rd_after_wr {r : Reg} {s t : State} {v x : Half} (hr : r.writable = true) (hs : s.runState = .idle)
    (hx : regRead (regWrite r v s) r = x) (h : exec (.wr r v) s = .next t) :
    exec (.rd r) t = .next { t with rsp := s.rsp ++ [x.setWidth 32] } := by
  rw [exec_wr_idle hr hs] at h
  cases h
  rw [exec_rd, hx, regWrite_rsp]

/-- Settles O17: each register reads as the value its `WR` stored, whose mask the read repeats. -/
theorem readAfterWriteSeesTheValue : Obligations.ReadAfterWriteSeesTheValue := fun _ _ v hs =>
  ⟨exec_rd_after_wr rfl hs (and_mask_idem v ctrlMask), exec_rd_after_wr rfl hs rfl, exec_rd_after_wr rfl hs rfl,
    exec_rd_after_wr rfl hs (and_mask_idem v catvalMask)⟩

end Sys2Proof.Machine
